-- ==== Sys2Proof/Word.lean ====
section
/-! DEFINITION. The words and the numberings of the PX416 playfield drive station. -/

namespace Sys2Proof

/-- A byte of a frame, of the configuration image or of a reply (bit 0 least significant, scope 3.6). -/
abbrev Byte := BitVec 8

/-- A 16-bit word: the frame and image check (R120), the station clock (R84), the sticky event set. -/
abbrev Half := BitVec 16

/-- Coils are numbered 0–15 (scope 3.1). -/
abbrev CoilNo := Fin 16

/-- Switches are numbered 0–31 (scope 3.1). -/
abbrev SwitchNo := Fin 32

/-- Lamps are numbered 0–23 (scope 3.1). -/
abbrev LampNo := Fin 24

end Sys2Proof
end

