-- ==== Sys2Proof/Syntax.lean ====
section
/-! DEFINITION. The commands of the block: one constructor for each row of spec/opcode_table.json.
A row is one step of the part, whole and indivisible (95_what_each_step_holds.md).  A row's operands
are what the step takes from outside the part: a pin's level, the bytes of a reception, the bytes of
the configuration image; or the number of the channel whose timer expires. -/

namespace Sys2Proof

/-- The three readings of a current-sense input (section 3.5). -/
inductive Sense where
  | none
  | present
  | over
  deriving DecidableEq, Repr

/-- The steps of the station, in the order of spec/opcode_table.json.  `rx` is the bytes a reception
has taken, sync byte first, none of them a byte error. -/
inductive Instr where
  | powerOn
  | supplyDip
  | powerUpHoldEnd (straps : BitVec 5)
  | configReadError
  | configRetryWaitExpiry
  | configPassEnd (image : List Byte)
  | stationClockTick
  | switchInputChange (sw : SwitchNo) (high : Bool)
  | switchAdoption (sw : SwitchNo)
  | switchEdge (sw : SwitchNo)
  | scan
  | announceTimerExpiry
  | waitLimitExpiry (coil : CoilNo)
  | kickTimerExpiry (coil : CoilNo)
  | holdLimitExpiry (coil : CoilNo)
  | restTimerExpiry (coil : CoilNo)
  | kickOpenCheck (coil : CoilNo)
  | senseReadingChange (coil : CoilNo) (reading : Sense)
  | offCurrentTimerExpiry (coil : CoilNo)
  | thermalIntervalExpiry
  | lampHalfExpiry (lamp : LampNo)
  | lampPhaseExpiry
  | warmUpExpiry (lamp : LampNo)
  | railReadingChange (reading : Byte)
  | settleTimerExpiry
  | sagQualifyExpiry
  | sagClearExpiry
  | faultLineAsserted
  | faultLineReleased
  | releaseSettleExpiry
  | badFrame (rx : List Byte)
  | fragment
  | filteredFrame (rx : List Byte)
  | ownNumberFrame (rx : List Byte)
  | drawFrame (rx : List Byte)
  | switchFrame (rx : List Byte)
  | fireFrame (rx : List Byte)
  | lampFrame (rx : List Byte)
  | status (rx : List Byte)
  | readEvents (rx : List Byte)
  | readCounters (rx : List Byte)
  | readPeer (rx : List Byte)
  | readCoil (rx : List Byte)
  | readSwitch (rx : List Byte)
  | testPulse (rx : List Byte)
  | setLamp (rx : List Byte)
  | clearFault (rx : List Byte)
  | restart (rx : List Byte)
  | svcUnknownRequest (rx : List Byte)
  | txSeriesStart
  | txWaitExpiry
  | txAttemptSuccess
  | txAttemptFailure
  | txAbandon
  | beatTimerExpiry
  | listenWindowExpiry
  | announcedTimerExpiry
  | linkLost
  | peerStaleExpiry (station : Nat)
  | peerRemovalExpiry (station : Nat)
  | qualityWindowEnd
  | validityMarkLost
  | startBitOnLine
  deriving DecidableEq, Repr

end Sys2Proof
end

