-- ==== Sys2Proof/Decode.lean ====
section
/-! DEFINITION. The words of spec/opcode_table.json.  The block has no instruction words: no row of the table
gives a fixed bit or a field of bits, so no word spells a command (log entry 11).  What the block decodes is
the frames on its bus, in Machine/Check.lean and Machine/Operands.lean. -/

namespace Sys2Proof

/-- The command that a word spells by the table's bits: none, since no row gives bits. -/
def decodeTableWord (_nbits _w : Nat) : Option Instr := none

end Sys2Proof
end

