-- ==== Sys2Proof/Config.lean ====
section
/-! DEFINITION. The free values: what the spec leaves open while the station goes on. -/

namespace Sys2Proof.Config

/-- Free value (log entry 1): the bits of a READ_COIL reply that describe a queue entry, when the coil
has none.  Table 11-4 gives them a place and, for an absent entry, no value (R18, R168).  No body:
nothing can be proved of it.  Applied to a count that each use advances. -/
opaque freeByte : Nat → Byte

/-- Free value (log entry 28): the value of a data bit that is sent at the active level.  R118 gives the levels of
the start bit and the stop bit and names no level for a data bit.  No body: nothing can be proved of it. -/
opaque activeData : Bool

end Sys2Proof.Config
end

