-- ==== Sys2Proof/Machine/Check.lean ====
section
/-! DEFINITION. Bytes, bit fields, the check, and the layout of a frame on the line
(R118 to R122, Table 8-1, Table 8-2). -/

namespace Sys2Proof.Machine

/-- Byte n of a list of bytes, as a number; 0 past its end. -/
def byteAt (l : List Byte) (n : Nat) : Nat := (l.getD n 0).toNat

/-- Bits hi..lo of byte n of a list of bytes. -/
def fieldAt (l : List Byte) (n hi lo : Nat) : Nat := byteAt l n / 2 ^ lo % 2 ^ (hi + 1 - lo)

/-- Bit b of byte n of a list of bytes. -/
def bitAt (l : List Byte) (n b : Nat) : Bool := (byteAt l n).testBit b

/-- Bytes n and n+1 as one number, high byte first (R119, section 11.2, R169). -/
def pairAt (l : List Byte) (n : Nat) : Nat := 256 * byteAt l n + byteAt l (n + 1)

/-- A number as one byte. -/
def byte (n : Nat) : Byte := BitVec.ofNat 8 n

/-- A number as two bytes, high byte first. -/
def pair (n : Nat) : List Byte := [byte (n / 256), byte n]

/-- One bit of the check: the generator is x^16 + x^12 + x^5 + 1 (R120). -/
def crcBit (r : Half) (b : Bool) : Half :=
  if r.msb == b then r <<< 1 else (r <<< 1) ^^^ 0x1021#16

/-- One byte of the check, most significant bit first (R120). -/
def crcByte (r : Half) (x : Byte) : Half :=
  [7, 6, 5, 4, 3, 2, 1, 0].foldl (fun r i => crcBit r (x.getLsbD i)) r

/-- The check over a list of bytes: the register starts at 0xFFFF and is sent without inversion (R120). -/
def crc (l : List Byte) : Half := l.foldl crcByte 0xFFFF#16

/-- The sync byte (Table 8-1). -/
def syncByte : Byte := 0xC3#8

/-- What a frame carries between its sync and its check (Table 8-1). -/
structure Frame where
  src : Nat
  dst : Nat
  kind : Nat
  payload : List Byte
  deriving DecidableEq, Repr

/-- Bytes 1 to 3+L of a frame: what its check is computed over (R119, R120). -/
def Frame.body (f : Frame) : List Byte :=
  byte f.src :: byte f.dst :: byte (16 * f.kind + f.payload.length) :: f.payload

/-- The bytes of a frame on the line (Table 8-1). -/
def Frame.bytes (f : Frame) : List Byte :=
  syncByte :: f.body ++ pair (crc f.body).toNat

/-- The line time of a frame: L + 6 bytes of 10 bit times (R118, R119). -/
def Frame.byteCount (f : Frame) : Nat := f.payload.length + 6

/-- How R122 classes the bytes of a complete reception. -/
inductive Reception where
  | incomplete
  | bad
  | good (f : Frame)
  deriving DecidableEq, Repr

/-- The frame whose bytes are `l`, read by Table 8-1 without looking at the check. -/
def frameOf (l : List Byte) : Frame :=
  { src := byteAt l 1
    dst := byteAt l 2
    kind := fieldAt l 3 7 4
    payload := (l.drop 4).take (fieldAt l 3 3 0) }

/-- R122: bytes without a byte error are a complete frame when the first is the sync, the length field
holds 0–12 and all L + 6 bytes are there; it is good when the check received equals the check
computed (R120), else bad.  Anything else ends as a fragment at the idle gap. -/
def classify (l : List Byte) : Reception :=
  let len := fieldAt l 3 3 0
  if byteAt l 0 = syncByte.toNat ∧ len ≤ 12 ∧ l.length = len + 6 then
    if pairAt l (4 + len) = (crc ((l.drop 1).take (3 + len))).toNat then .good (frameOf l) else .bad
  else .incomplete

end Sys2Proof.Machine
end

