-- ==== Sys2Proof/Machine/Timing.lean ====
section
/-! DEFINITION. Time (scope 3.4): the quantum of the model, the timers, and every duration the spec
states as a number.  The quantum is half a microsecond, the largest that divides the bit time of 2 µs
and the PWM step of 62.5 µs (log entry 2). -/

namespace Sys2Proof.Machine

/-- n microseconds in quanta. -/
def us (n : Nat) : Nat := 2 * n

/-- n milliseconds in quanta. -/
def ms (n : Nat) : Nat := 2000 * n

/-- n hundredths of a second ("× 10 ms") in quanta. -/
def cs (n : Nat) : Nat := ms (10 * n)

/-- n seconds in quanta. -/
def sec (n : Nat) : Nat := ms (1000 * n)

/-- n bit times in quanta: one bit time is 2 µs (R118). -/
def bits (n : Nat) : Nat := 4 * n

/-- A running timer: the time since it was started, up to the limit at which it expires. -/
structure Countup where
  elapsed : Nat
  limit : Nat
  deriving DecidableEq, Repr

/-- A timer of the station: stopped, or running. -/
abbrev Timer := Option Countup

/-- A timer started from 0. -/
def startTimer (limit : Nat) : Countup := { elapsed := 0, limit := limit }

/-- The timer has reached its limit. -/
def Countup.reached (t : Countup) : Bool := decide (t.limit ≤ t.elapsed)

/-- One quantum passes; a timer never passes its limit. -/
def Countup.advance (t : Countup) : Countup := { t with elapsed := min (t.elapsed + 1) t.limit }

/-- The timer runs and has reached its limit. -/
def timerReached : Timer → Bool
  | none => false
  | some t => t.reached

/-- One quantum passes for a timer that may be stopped. -/
def advanceTimer : Timer → Timer
  | none => none
  | some t => some t.advance

/-- The power-up hold (R163). -/
def powerUpHold : Nat := ms 40
/-- The wait after a failed read attempt (R164). -/
def retryWait : Nat := ms 10
/-- The announce limit (R35, R37). -/
def announceLimit : Nat := ms 20
/-- The kick time at which the OPEN check is made (R61). -/
def openCheckTime : Nat := ms 2
/-- The off-current time that gives STUCK (R63). -/
def stuckTime : Nat := ms 5
/-- The thermal interval (R69). -/
def thermalPeriod : Nat := ms 1
/-- The lamp phase (R112). -/
def lampPhasePeriod : Nat := ms 5
/-- The warm-up of an incandescent lamp (R112). -/
def warmUpTime : Nat := ms 20
/-- t_settle of Table 10-2. -/
def settleTime : Nat := ms 200
/-- t_sag of Table 10-2. -/
def sagTime : Nat := ms 2
/-- t_clear of Table 10-2. -/
def clearTime : Nat := ms 20
/-- The release settle of the table fault line (R159). -/
def releaseTime : Nat := ms 100
/-- The period of coil and lamp PWM (R45, R108). -/
def pwmPeriod : Nat := ms 1
/-- One sixteenth of a PWM period, 62.5 µs (R45, R108). -/
def pwmStep : Nat := 125
/-- The time of one byte on the line: 10 bit times (R118). -/
def byteTime : Nat := bits 10
/-- The idle gap: 12 bit times (R118). -/
def idleGap : Nat := bits 12

end Sys2Proof.Machine
end

