-- ==== Sys2Proof/Machine/State.lean ====
section
/-! DEFINITION. The state of the station, block by block (Table 1 of the introduction), as plain data,
and the state right after a power-on reset. -/

namespace Sys2Proof.Machine

/-! ### Names of states, modes and classes -/

/-- Link states (Table 9-1). -/
inductive LinkState where
  | offline | listen | announced | armed | duplicate | held
  deriving DecidableEq, Repr

/-- Coil-rail states (Table 10-1). -/
inductive RailState where
  | down | settling | up | sag
  deriving DecidableEq, Repr

/-- Drive states (R158). -/
inductive DriveState where
  | normal | safe
  deriving DecidableEq, Repr

/-- Coil classes (Table 1-1). -/
inductive CoilClass where
  | pulse | latch | flipper
  deriving DecidableEq, Repr

/-- Channel states (Table 3-3). -/
inductive CoilState where
  | idle | kick | hold | rest | lockout | fault
  deriving DecidableEq, Repr

/-- Fault kinds OPEN, SHORT and STUCK (Table 3-1). -/
inductive FaultKind where
  | opened | short | stuck
  deriving DecidableEq, Repr

/-- Heat levels (R76). -/
inductive HeatLevel where
  | normal | warm | hot
  deriving DecidableEq, Repr

/-- A debounced level (Table 5-2). -/
inductive SwitchLevel where
  | unsettled | closed | opened
  deriving DecidableEq, Repr

/-- Edge kinds CLOSE and OPEN (R83). -/
inductive EdgeKind where
  | close | opened
  deriving DecidableEq, Repr

/-- The actions of a coil request (R1). -/
inductive CoilAction where
  | pulse | engage | release
  deriving DecidableEq, Repr

/-- Request origins (Table 1-2). -/
inductive Origin where
  | localSwitch | remoteSwitch | fireFrame | service
  deriving DecidableEq, Repr

/-- Kinds of queue entry (Table 1-3). -/
inductive EntryKind where
  | pulses | engage
  deriving DecidableEq, Repr

/-- Phases of a queue entry (Table 1-3). -/
inductive Phase where
  | queued | announcing
  deriving DecidableEq, Repr

/-- The answer to a coil request: accepted, or an outcome (R1, R18). -/
inductive Answer where
  | accepted | merged | cancelled | refused | lockedOut | queueFull
  deriving DecidableEq, Repr

/-- Logical lamp modes (Table 7-2). -/
inductive LampMode where
  | dark | lit | flash
  deriving DecidableEq, Repr

/-- Lamp drive stages (R109). -/
inductive LampStage where
  | dark | waiting | warming | lit
  deriving DecidableEq, Repr

/-- Causes of a reset (R162). -/
inductive ResetCause where
  | powerOn | supplyDip | serviceRestart
  deriving DecidableEq, Repr

/-- Outcomes of a configuration load (R164, Table 11-3), in the order STATUS codes them. -/
inductive LoadOutcome where
  | accepted | readError | format | length | check | station | capacity | reserve | holdSource | coilDraw
  deriving DecidableEq, Repr

/-- The sticky events of Table 11-5, in bit order. -/
inductive StickyEvent where
  | queueFull | expired | lockout | driverFault | txAbandon | switchDrop | switchGap | peerStale
  | peerLost | busDegraded | railDrop | railSag | safeEntered | duplicate | linkLost
  deriving DecidableEq, Repr

/-- The fifteen counters of Table 11-6, group by group in reply order. -/
inductive Counter where
  | good | bad | fragments | abandoned | ignored
  | delivered | merged | queueFull | expired | lockedOut
  | switchGaps | switchDrops | railDrops | sagEntries | refused
  deriving DecidableEq, Repr

/-! ### Settings taken from the configuration image -/

/-- A coil record in force (Table 11-2, Table 3-2, Table 4-1). -/
structure CoilSettings where
  cls : CoilClass
  priority : Nat
  holdSource : Nat
  draw : Nat
  kickTime : Nat
  duty : Nat
  holdLimit : Nat
  restTime : Nat
  waitLimit : Nat
  heatRate : Nat
  shift : Nat
  trip : Nat
  deriving DecidableEq, Repr

/-- A switch record in force (Table 5-1). -/
structure SwitchSettings where
  closeDebounce : Nat
  openDebounce : Nat
  broadcast : Bool
  invert : Bool
  deriving DecidableEq, Repr

/-- A lamp record in force (Table 7-1). -/
structure LampSettings where
  incandescent : Bool
  glow : Nat
  brightness : Nat
  halfPeriod : Nat
  initial : LampMode
  deriving DecidableEq, Repr

/-- The fault-line cause mask (Table 11-1, offset 11). -/
structure CauseMask where
  short : Bool
  stuck : Bool
  opened : Bool
  duplicate : Bool
  deriving DecidableEq, Repr

/-- The status mask (Table 11-1, offset 10). -/
structure StatusMask where
  notArmed : Bool
  railNotUp : Bool
  safe : Bool
  lockout : Bool
  fault : Bool
  degraded : Bool
  deriving DecidableEq, Repr

/-- Every setting in force, and the flipper reserve derived from them (R21, R22). -/
structure Settings where
  capacity : Nat
  headroom : Nat
  ceiling : Nat
  allowance : Nat
  reserve : Nat
  beat : Nat
  quality : Nat
  vOn : Nat
  vSag : Nat
  statusMask : StatusMask
  causeMask : CauseMask
  coils : Vector CoilSettings 16
  switches : Vector SwitchSettings 32
  lamps : Vector LampSettings 24
  deriving DecidableEq, Repr

/-! ### The blocks -/

/-- The input pins the station reads whenever it needs them: levels from outside.  The straps are read
once (R163) and come with that step. -/
structure Pins where
  switchHigh : Vector Bool 32
  sense : Vector Sense 16
  rail : Nat
  tfaultLow : Bool
  deriving DecidableEq, Repr

/-- The retained store (R162). -/
structure Retained where
  heat : Vector Nat 16
  cause : ResetCause
  dipCount : Nat
  valid : Bool
  leftOffline : Bool
  deriving DecidableEq, Repr

/-- The configuration loader (R164): not begun, reading (attempt n), waiting after attempt n, ended. -/
inductive Loader where
  | holding
  | reading (attempt : Nat)
  | waiting (attempt : Nat) (timer : Countup)
  | ended
  deriving DecidableEq, Repr

/-- Start-up (R163, R164, R165). -/
structure StartUp where
  hold : Timer
  strapNumber : Nat
  loader : Loader
  outcome : Option LoadOutcome
  deriving DecidableEq, Repr

/-- A peer draw table entry (Table 9-5); the flags are SAFE, CONFIG_FAULT, DEGRADED, RAIL_UP, bit 0 up.
The silence timer's limit is the removal limit of R146. -/
structure Peer where
  station : Nat
  stale : Bool
  draw : Nat
  reserve : Nat
  ceiling : Nat
  beat : Nat
  linkCode : Byte
  flags : BitVec 4
  silence : Countup
  deriving DecidableEq, Repr

/-- A remote edge memory record (R150); `last` is the last sequence number and edge, or absent. -/
structure EdgeRecord where
  station : Nat
  switch : Nat
  last : Option (Nat × EdgeKind)
  deriving DecidableEq, Repr

/-- The link unit (Table 9-3, R145, R148, R150). -/
structure LinkUnit where
  state : LinkState
  listenWindow : Timer
  announcedTimer : Timer
  silence : Timer
  abandonCount : Nat
  duplicateSeen : Bool
  peers : List Peer
  windowFrames : Nat
  windowBad : Nat
  degraded : Bool
  memory : List EdgeRecord
  deriving DecidableEq, Repr

/-- A fire queue entry (Table 1-3). -/
structure Entry where
  coil : CoilNo
  kind : EntryKind
  pulses : Nat
  origin : Origin
  phase : Phase
  wait : Countup
  deriving DecidableEq, Repr

/-- The announce record (R34). -/
structure Announce where
  coil : CoilNo
  draw : Nat
  timer : Countup
  carried : Bool
  deriving DecidableEq, Repr

/-- The fire scheduler: committed draw, fire queue, announce record, and whether a scan is owed to the
prompts of R29. -/
structure Scheduler where
  committed : Nat
  queue : List Entry
  announce : Option Announce
  scanDue : Bool
  deriving DecidableEq, Repr

/-- A coil channel (Table 3-1).  The kick time in force is the limit of the kick timer.  `pwmPhase` is
the time since the PWM period began and `driven` the duty of that period (R45). -/
structure CoilChannel where
  state : CoilState
  faultKind : Option FaultKind
  kickTimer : Timer
  currentSeen : Bool
  holdTimer : Timer
  duty : Option Nat
  restTimer : Timer
  offTimer : Timer
  needsRelease : Bool
  pwmPhase : Nat
  driven : Nat
  deriving DecidableEq, Repr

/-- The thermal unit's levels and interval; the accumulators stand in the retained store (R68, R162).
`firstInterval`: the first expiry since the acceptance of the configuration is still to come (R66, R69, R79). -/
structure Thermal where
  levels : Vector HeatLevel 16
  interval : Timer
  firstInterval : Bool
  deriving DecidableEq, Repr

/-- A qualify timer: the level it times towards, and the time (R83). -/
structure Qualify where
  closed : Bool
  timer : Countup
  deriving DecidableEq, Repr

/-- A switch record (Table 5-2). -/
structure SwitchRecord where
  level : SwitchLevel
  qualify : Option Qualify
  edgeCount : Half
  lastEdge : Half
  sequence : BitVec 4
  deriving DecidableEq, Repr

/-- The switch unit: 32 records and the station clock, with the time since its last tick (R84). -/
structure SwitchUnit where
  records : Vector SwitchRecord 32
  clock : Half
  clockTimer : Countup
  deriving DecidableEq, Repr

/-- The edge field of a reflex entry (Table 6-1). -/
inductive EdgeSelect where
  | close | opened | both
  deriving DecidableEq, Repr

/-- The condition of a reflex entry (R99). -/
inductive Condition where
  | none
  | lampLit (lamp : LampNo)
  | lampUnlit (lamp : LampNo)
  deriving DecidableEq, Repr

/-- The action of a reflex entry (Table 6-1). -/
inductive ReflexAction where
  | pulse (coil : CoilNo) (count : Nat)
  | engage (coil : CoilNo)
  | release (coil : CoilNo)
  | lampOn (lamp : LampNo)
  | lampOff (lamp : LampNo)
  | lampToggle (lamp : LampNo)
  | lampFlash (lamp : LampNo) (count : Nat)
  deriving DecidableEq, Repr

/-- A reflex entry in use (Table 6-1). -/
structure ReflexEntry where
  source : Nat
  switch : Nat
  edge : EdgeSelect
  condition : Condition
  action : ReflexAction
  deriving DecidableEq, Repr

/-- The reflex table: 48 entries in table order, none where unused, and the set-aside count (R92, R93). -/
structure ReflexTable where
  entries : Vector (Option ReflexEntry) 48
  setAside : Nat
  deriving DecidableEq, Repr

/-- A flash record (Table 7-2): half-period × 10 ms, cycles remaining (none = FOREVER), final state ON,
half LIT, half timer. -/
structure Flash where
  halfPeriod : Nat
  cycles : Option Nat
  finalOn : Bool
  halfLit : Bool
  timer : Countup
  deriving DecidableEq, Repr

/-- A lamp channel's changing state (Table 7-2).  `driven` is the duty of the PWM period in progress (R108). -/
structure LampChannel where
  mode : LampMode
  flash : Option Flash
  stage : LampStage
  warmUp : Timer
  driven : Nat
  deriving DecidableEq, Repr

/-- The lamp unit: 24 channels, the lamp start queue, the lamp phase, and the time since the lamps'
PWM period began. -/
structure LampUnit where
  lamps : Vector LampChannel 24
  queue : List LampNo
  phase : Timer
  pwmPhase : Nat
  deriving DecidableEq, Repr

/-- What a pending service reply carries after its status (Table 11-4): bytes fixed when the request was
taken, or data sampled at each attempt. -/
inductive ReplyData where
  | fixed (data : List Byte)
  | status
  | events
  | counters (group : Nat)
  | peer (station : Nat)
  | coil (coil : CoilNo)
  | switch (sw : SwitchNo)
  deriving DecidableEq, Repr

/-- A pending service reply (R168): the request code, the status, the data, and whether its completion
performs a restart (R169). -/
structure Reply where
  code : Nat
  status : Nat
  data : ReplyData
  restart : Bool
  deriving DecidableEq, Repr

/-- A general entry of the transmit queue (R126). -/
inductive GeneralEntry where
  | switch (sw : SwitchNo) (edge : EdgeKind) (sequence : BitVec 4)
  | reply (r : Reply)
  deriving DecidableEq, Repr

/-- What a series sends (R129). -/
inductive SeriesKind where
  | draw | switch | reply
  deriving DecidableEq, Repr

/-- A series: what it sends, its failed attempts, and whether R135 has ended it with an attempt of it
still on the wire. -/
structure Series where
  kind : SeriesKind
  failed : Nat
  cut : Bool
  deriving DecidableEq, Repr

/-- An attempt on the wire: the frame as composed, the time since its first start bit, and the stop bit, on that
timer, of the first byte during which a second station has driven the line too (R118). -/
structure Wire where
  frame : Frame
  timer : Countup
  clashAt : Option Nat
  deriving DecidableEq, Repr

/-- The receiver (R122): between receptions; taking a frame; a frame complete and no idle gap since;
discarding the bytes that follow a complete frame. -/
inductive Receiver where
  | between | receiving | complete | discarding
  deriving DecidableEq, Repr

/-- The bus interface: transmit queue, series, attempt, beat timer, and the line as the receiver and the
count of idle bit times see it (R122, R126 to R130). -/
structure Bus where
  drawPending : Bool
  general : List GeneralEntry
  series : Option Series
  wire : Option Wire
  beatTimer : Timer
  started : Bool
  byteLeft : Nat
  idle : Nat
  receiver : Receiver
  deriving DecidableEq, Repr

/-- The rail monitor (R151). -/
structure RailMonitor where
  state : RailState
  settle : Timer
  sagQualify : Timer
  sagClear : Timer
  deriving DecidableEq, Repr

/-- The latched kinds of one channel (R156). -/
structure KindSet where
  short : Bool
  stuck : Bool
  opened : Bool
  deriving DecidableEq, Repr

/-- The fault line unit (R156, R158). -/
structure FaultLine where
  kinds : Vector KindSet 16
  duplicate : Bool
  drive : DriveState
  watching : Bool
  release : Timer
  deriving DecidableEq, Repr

/-- The service unit: sticky events, raised-since-sample marks, counters (R170, R171). -/
structure Service where
  events : Half
  raised : Half
  counters : Vector Nat 15
  deriving DecidableEq, Repr

/-- The station, and the queue of commands that wait, first in, first out.  `freeIndex` is the model's
own: it counts the free values used (log entry 1). -/
structure State where
  pending : List Instr
  pins : Pins
  retained : Retained
  startUp : StartUp
  settings : Settings
  link : LinkUnit
  sched : Scheduler
  coils : Vector CoilChannel 16
  thermal : Thermal
  switches : SwitchUnit
  reflex : ReflexTable
  lamps : LampUnit
  bus : Bus
  rail : RailMonitor
  faultLine : FaultLine
  service : Service
  freeIndex : Nat
  deriving DecidableEq, Repr

/-- The faults of a step.  None: the spec gives every step an effect, or says that it does not occur, and
no access of the block can miss. -/
inductive Fault where
  deriving DecidableEq, Repr

/-- The refusals of a step. -/
inductive Refusal where
  /-- Raised by `exec` alone, for a row of the table that has no meaning yet (safe: nothing is claimed of
  it).  No arm of this model raises it. -/
  | notModelled (mnemonic : String)
  deriving DecidableEq, Repr

/-! ### The state after reset -/

/-- A coil record while no configuration is in force (log entry 3). -/
def CoilSettings.unset : CoilSettings :=
  { cls := .pulse, priority := 0, holdSource := 0, draw := 0, kickTime := 0, duty := 0, holdLimit := 0,
    restTime := 0, waitLimit := 0, heatRate := 0, shift := 0, trip := 0 }

/-- A switch record while no configuration is in force (log entry 3). -/
def SwitchSettings.unset : SwitchSettings :=
  { closeDebounce := 0, openDebounce := 0, broadcast := false, invert := false }

/-- A lamp record while no configuration is in force (log entry 3). -/
def LampSettings.unset : LampSettings :=
  { incandescent := false, glow := 0, brightness := 0, halfPeriod := 0, initial := .dark }

/-- No configuration in force: C, H, M_own, A_own and R_own stand at 0 (R21) and the masks hold no bit
(R161, R172); the other settings are read by nothing before acceptance (log entry 3). -/
def Settings.unset : Settings :=
  { capacity := 0, headroom := 0, ceiling := 0, allowance := 0, reserve := 0, beat := 0, quality := 0,
    vOn := 0, vSag := 0,
    statusMask := { notArmed := false, railNotUp := false, safe := false, lockout := false, fault := false,
                    degraded := false },
    causeMask := { short := false, stuck := false, opened := false, duplicate := false },
    coils := Vector.replicate 16 CoilSettings.unset,
    switches := Vector.replicate 32 SwitchSettings.unset,
    lamps := Vector.replicate 24 LampSettings.unset }

/-- R66: a channel after every reset.  R66 and Table 3-1 give the current-seen mark no value there: clear is a
DESIGN CHOICE (log entry 29); so is 0 for the model's own record of a PWM period, of which there is none outside HOLD
(log entry 33). -/
def CoilChannel.reset : CoilChannel :=
  { state := .idle, faultKind := none, kickTimer := none, currentSeen := false, holdTimer := none,
    duty := none, restTimer := none, offTimer := none, needsRelease := false, pwmPhase := 0, driven := 0 }

/-- Table 5-2: a switch record after every reset. -/
def SwitchRecord.reset : SwitchRecord :=
  { level := .unsettled, qualify := none, edgeCount := 0, lastEdge := 0, sequence := 0 }

/-- R116: a lamp channel after every reset. -/
def LampChannel.reset : LampChannel :=
  { mode := .dark, flash := none, stage := .dark, warmUp := none, driven := 0 }

/-- R137, R147, R148, R150: the link unit after every reset. -/
def LinkUnit.reset : LinkUnit :=
  { state := .offline, listenWindow := none, announcedTimer := none, silence := none, abandonCount := 0,
    duplicateSeen := false, peers := [], windowFrames := 0, windowBad := 0, degraded := false, memory := [] }

/-- R20, R43: the fire scheduler after every reset. -/
def Scheduler.reset : Scheduler :=
  { committed := 0, queue := [], announce := none, scanDue := false }

/-- R69, R79: the thermal unit after every reset.  R79 gives the heat level at acceptance and in HELD and names none for
OFFLINE: NORMAL there is a DESIGN CHOICE (log entry 32). -/
def Thermal.reset : Thermal := { levels := Vector.replicate 16 .normal, interval := none, firstInterval := false }

/-- R84, R85: the switch unit after every reset. -/
def SwitchUnit.reset : SwitchUnit :=
  { records := Vector.replicate 32 SwitchRecord.reset, clock := 0, clockTimer := startTimer (ms 1) }

/-- R93: the reflex table after every reset. -/
def ReflexTable.reset : ReflexTable := { entries := Vector.replicate 48 none, setAside := 0 }

/-- R116: the lamp unit after every reset (the start of the PWM period: log entry 4). -/
def LampUnit.reset : LampUnit :=
  { lamps := Vector.replicate 24 LampChannel.reset, queue := [], phase := none, pwmPhase := 0 }

/-- R136: the bus interface after every reset; what the model holds of the line before the receiver starts is a
DESIGN CHOICE (log entry 33). -/
def Bus.reset : Bus :=
  { drawPending := false, general := [], series := none, wire := none, beatTimer := none, started := false,
    byteLeft := 0, idle := 0, receiver := .between }

/-- R151: the rail monitor after every reset. -/
def RailMonitor.reset : RailMonitor :=
  { state := .down, settle := none, sagQualify := none, sagClear := none }

/-- No latched kind. -/
def KindSet.empty : KindSet := { short := false, stuck := false, opened := false }

/-- R161: the fault line unit after every reset. -/
def FaultLine.reset : FaultLine :=
  { kinds := Vector.replicate 16 KindSet.empty, duplicate := false, drive := .safe, watching := false,
    release := none }

/-- R170, R171: the service unit after every reset.  R170 gives the events as clear and names no value for the
raised-since-sample marks: clear is a DESIGN CHOICE (log entry 30). -/
def Service.reset : Service := { events := 0, raised := 0, counters := Vector.replicate 15 0 }

/-- R163: start-up after every reset: the power-up hold starts; the straps are not read yet (log entry 3). -/
def StartUp.reset : StartUp :=
  { hold := some (startTimer powerUpHold), strapNumber := 0, loader := .holding, outcome := none }

/-- R162, R79: the retained store after a power-on reset. -/
def Retained.powerOn : Retained :=
  { heat := Vector.replicate 16 0, cause := .powerOn, dipCount := 0, valid := true, leftOffline := false }

/-- Input pins before anything outside has driven them (log entry 5): every switch input reads high
through its pull-up (R81), no current, no rail, the fault line pulled up. -/
def Pins.initial : Pins :=
  { switchHigh := Vector.replicate 32 true, sense := Vector.replicate 16 .none, rail := 0,
    tfaultLow := false }

/-- The station right after a power-on reset, with no command waiting. -/
def State.reset : State :=
  { pending := [], pins := Pins.initial, retained := Retained.powerOn, startUp := StartUp.reset,
    settings := Settings.unset, link := LinkUnit.reset, sched := Scheduler.reset,
    coils := Vector.replicate 16 CoilChannel.reset, thermal := Thermal.reset,
    switches := SwitchUnit.reset, reflex := ReflexTable.reset, lamps := LampUnit.reset,
    bus := Bus.reset, rail := RailMonitor.reset, faultLine := FaultLine.reset, service := Service.reset,
    freeIndex := 0 }

/-! ### Updates, one for each block -/

/-- Change the pins. -/
def State.onPins (s : State) (f : Pins → Pins) : State := { s with pins := f s.pins }
/-- Change the retained store. -/
def State.onRetained (s : State) (f : Retained → Retained) : State := { s with retained := f s.retained }
/-- Change start-up. -/
def State.onStartUp (s : State) (f : StartUp → StartUp) : State := { s with startUp := f s.startUp }
/-- Change the settings in force. -/
def State.onSettings (s : State) (f : Settings → Settings) : State := { s with settings := f s.settings }
/-- Change the link unit. -/
def State.onLink (s : State) (f : LinkUnit → LinkUnit) : State := { s with link := f s.link }
/-- Change the fire scheduler. -/
def State.onSched (s : State) (f : Scheduler → Scheduler) : State := { s with sched := f s.sched }
/-- Change the coil channels. -/
def State.onCoils (s : State) (f : Vector CoilChannel 16 → Vector CoilChannel 16) : State :=
  { s with coils := f s.coils }
/-- Change the thermal unit. -/
def State.onThermal (s : State) (f : Thermal → Thermal) : State := { s with thermal := f s.thermal }
/-- Change the switch unit. -/
def State.onSwitches (s : State) (f : SwitchUnit → SwitchUnit) : State := { s with switches := f s.switches }
/-- Change the reflex table. -/
def State.onReflex (s : State) (f : ReflexTable → ReflexTable) : State := { s with reflex := f s.reflex }
/-- Change the lamp unit. -/
def State.onLamps (s : State) (f : LampUnit → LampUnit) : State := { s with lamps := f s.lamps }
/-- Change the bus interface. -/
def State.onBus (s : State) (f : Bus → Bus) : State := { s with bus := f s.bus }
/-- Change the rail monitor. -/
def State.onRail (s : State) (f : RailMonitor → RailMonitor) : State := { s with rail := f s.rail }
/-- Change the fault line unit. -/
def State.onFaultLine (s : State) (f : FaultLine → FaultLine) : State := { s with faultLine := f s.faultLine }
/-- Change the service unit. -/
def State.onService (s : State) (f : Service → Service) : State := { s with service := f s.service }
/-- Advance the count of free values used. -/
def State.onFreeIndex (s : State) (f : Nat → Nat) : State := { s with freeIndex := f s.freeIndex }
/-- Replace the queue of waiting commands. -/
def State.withPending (s : State) (q : List Instr) : State := { s with pending := q }

end Sys2Proof.Machine
end

