-- ==== Sys2Proof/Machine/Flags.lean ====
section
/-! DEFINITION. The marks every block sets: sticky events, counters, the prompt for a scan, the pending
mark of the draw slot, and the reported draw (R19, R29, R39, R125, R128, R170, R171). -/

namespace Sys2Proof.Machine

/-- The bit of a sticky event (Table 11-5). -/
def StickyEvent.bit : StickyEvent → Nat
  | .queueFull => 0
  | .expired => 1
  | .lockout => 2
  | .driverFault => 3
  | .txAbandon => 4
  | .switchDrop => 5
  | .switchGap => 6
  | .peerStale => 7
  | .peerLost => 8
  | .busDegraded => 9
  | .railDrop => 10
  | .railSag => 11
  | .safeEntered => 12
  | .duplicate => 13
  | .linkLost => 14

/-- A sticky event as a mask of the set. -/
def StickyEvent.mask (e : StickyEvent) : Half := 1#16 <<< e.bit

/-- The place of a counter among the fifteen: group by group, in reply order (Table 11-6). -/
def Counter.index : Counter → Fin 15
  | .good => 0
  | .bad => 1
  | .fragments => 2
  | .abandoned => 3
  | .ignored => 4
  | .delivered => 5
  | .merged => 6
  | .queueFull => 7
  | .expired => 8
  | .lockedOut => 9
  | .switchGaps => 10
  | .switchDrops => 11
  | .railDrops => 12
  | .sagEntries => 13
  | .refused => 14

/-- One more, saturating at 65535 (scope 3.5, R171). -/
def satInc (n : Nat) : Nat := min (n + 1) 65535

/-- Raise a sticky event and set its raised-since-sample mark (R170). -/
def raise (e : StickyEvent) (s : State) : State :=
  s.onService fun v => { v with events := v.events ||| e.mask, raised := v.raised ||| e.mask }

/-- Increment a counter (R171). -/
def count (c : Counter) (s : State) : State :=
  s.onService fun v => { v with counters := v.counters.set c.index (satInc v.counters[c.index]) }

/-- A scan is owed (R29). -/
def promptScan (s : State) : State := s.onSched fun q => { q with scanDue := true }

/-- R127, R128: whether an event may set the pending mark.  Not in OFFLINE or DUPLICATE, and not in LISTEN
while the LISTEN window runs. -/
def mayMark (s : State) : Bool :=
  match s.link.state with
  | .offline => false
  | .duplicate => false
  | .listen => s.link.listenWindow.isNone
  | _ => true

/-- Set the pending mark of the draw slot, within the limits of R127 and R128. -/
def markDraw (s : State) : State :=
  if mayMark s then s.onBus fun b => { b with drawPending := true } else s

/-- The reported draw: D_own plus d_a of any ANNOUNCING entry (R39). -/
def reportedDraw (s : State) : Nat :=
  match s.sched.announce with
  | none => s.sched.committed
  | some a => s.sched.committed + a.draw

/-- What follows a change of D_own or of the reported draw from `before` to `after`: a change of D_own
prompts a scan (R23, R29), a change of the reported draw marks the draw slot pending (R39). -/
def noteDraw (before after : State) : State :=
  let s := if after.sched.committed = before.sched.committed then after else promptScan after
  if reportedDraw after = reportedDraw before then s else markDraw s

/-- A good frame, or a completed frame of the station's own, starts the silence timer again while the link
is ANNOUNCED or ARMED (R141). -/
def heard (s : State) : State :=
  match s.link.state with
  | .announced => s.onLink fun l => { l with silence := some (startTimer (cs (8 * s.settings.beat))) }
  | .armed => s.onLink fun l => { l with silence := some (startTimer (cs (8 * s.settings.beat))) }
  | _ => s

end Sys2Proof.Machine
end

