-- ==== Sys2Proof/Machine/Lamps.lean ====
section
/-! DEFINITION. Lamp channels (chapter 7): mode commands, the drive stage that follows the demand, the lamp
start queue, and the three lamp rows of the table. -/

namespace Sys2Proof.Machine

/-- The lamps in order of number. -/
def allLamps : List LampNo := List.finRange 24

/-- A mode command (R106): half-period × 10 ms, count (0 = forever) and final state for a flash. -/
inductive ModeCommand where
  | off | on | toggle
  | flash (halfPeriod count : Nat) (finalOn : Bool)
  deriving DecidableEq, Repr

/-- The lamp unit runs, and takes commands, in LISTEN, ANNOUNCED, ARMED and DUPLICATE (R112, R113, R115). -/
def lampsRun (l : LinkState) : Bool :=
  match l with
  | .offline => false
  | .held => false
  | _ => true

/-- A new flash record (R106): half LIT, half timer from 0, cycles FOREVER for a count of 0. -/
def newFlash (halfPeriod count : Nat) (finalOn : Bool) : Flash :=
  { halfPeriod := halfPeriod, cycles := if count = 0 then none else some count, finalOn := finalOn,
    halfLit := true, timer := startTimer (cs halfPeriod) }

/-- Table 7-3: the effect of a mode command on the logical mode and the flash record. -/
def applyMode (cmd : ModeCommand) (ch : LampChannel) : LampChannel :=
  match cmd with
  | .off => { ch with mode := .dark, flash := none }
  | .on => { ch with mode := .lit, flash := none }
  | .toggle => { ch with mode := if ch.mode = .dark then .lit else .dark, flash := none }
  | .flash h n f => { ch with mode := .flash, flash := some (newFlash h n f) }

/-- The demand is LIT in ON and in the LIT half of a flash (Table 7-2). -/
def demandLit (ch : LampChannel) : Bool :=
  match ch.mode with
  | .dark => false
  | .lit => true
  | .flash => match ch.flash with
    | none => false
    | some f => f.halfLit

/-- R108 to R111: the drive stage follows the demand.  An incandescent lamp joins the tail of the lamp start
queue, or leaves it; a lamp with the incandescent flag clear is LIT or DARK at once. -/
def followDemand (n : LampNo) (s : State) : State :=
  let ch := s.lamps.lamps[n]
  if s.settings.lamps[n].incandescent then
    if demandLit ch then
      if ch.stage = .dark then
        s.onLamps fun u => { u with lamps := u.lamps.set n { ch with stage := .waiting }
                                    queue := u.queue ++ [n] }
      else s
    else s.onLamps fun u => { u with lamps := u.lamps.set n { ch with stage := .dark, warmUp := none }
                                     queue := u.queue.filter fun m => m ≠ n }
  else s.onLamps fun u =>
    { u with lamps := u.lamps.set n { ch with stage := if demandLit ch then .lit else .dark } }

/-- Change one lamp's logical mode and let its drive follow. -/
def setLampChannel (n : LampNo) (f : LampChannel → LampChannel) (s : State) : State :=
  followDemand n (s.onLamps fun u => { u with lamps := u.lamps.set n (f u.lamps[n]) })

/-- R106: one mode command taken by one lamp. -/
def lampCommand (n : LampNo) (cmd : ModeCommand) (s : State) : State := setLampChannel n (applyMode cmd) s

/-- The command that a mode code of Table 8-6 gives lamp n: 0 OFF, 1 ON, 2 FLASH, 3 TOGGLE; a half-period of 0
is the lamp's default (R113, R114). -/
def commandFor (s : State) (n : LampNo) (mode half count : Nat) (finalOn : Bool) : Option ModeCommand :=
  match mode with
  | 0 => some .off
  | 1 => some .on
  | 2 => some (.flash (if half = 0 then s.settings.lamps[n].halfPeriod else half) count finalOn)
  | 3 => some .toggle
  | _ => none

/-- The lamps that a lamp number names: one lamp, every lamp for 255, none for 24–254 (R113, R114). -/
def lampsNamed (n : Nat) : List LampNo :=
  if h : n < 24 then [⟨n, h⟩] else if n = 255 then allLamps else []

/-- One command to each lamp named, in order of lamp number (R113, R114). -/
def commandLamps (ns : List LampNo) (mode half count : Nat) (finalOn : Bool) (s : State) : State :=
  ns.foldl (fun s n => match commandFor s n mode half count finalOn with
    | none => s
    | some cmd => lampCommand n cmd s) s

/-- R113: a LAMP frame's payload taken by the lamp unit; ignored in OFFLINE and HELD, and where it names no
lamp or no mode. -/
def takeLampFrame (payload : List Byte) (s : State) : State :=
  let ns := lampsNamed (byteAt payload 0)
  let mode := fieldAt payload 1 2 0
  if lampsRun s.link.state && !ns.isEmpty && decide (mode < 4) then
    commandLamps ns mode (byteAt payload 2) (fieldAt payload 1 7 4) (bitAt payload 1 3) s
  else count .ignored s

/-- R116: a lamp takes its initial state at acceptance; FLASH is forever at the default half-period. -/
def initialLamp (n : LampNo) (s : State) : State :=
  match s.settings.lamps[n].initial with
  | .dark => lampCommand n .off s
  | .lit => lampCommand n .on s
  | .flash => lampCommand n (.flash s.settings.lamps[n].halfPeriod 0 false) s

/-- R107: one half expiry of a flash. -/
def halfExpired (f : Flash) (ch : LampChannel) : LampChannel :=
  if f.halfLit then
    { ch with flash := some { f with halfLit := false, timer := startTimer (cs f.halfPeriod) } }
  else
    match f.cycles with
    | none => { ch with flash := some { f with halfLit := true, timer := startTimer (cs f.halfPeriod) } }
    | some k =>
      if 2 ≤ k then
        { ch with flash := some { f with cycles := some (k - 1), halfLit := true
                                         timer := startTimer (cs f.halfPeriod) } }
      else { ch with mode := if f.finalOn then .lit else .dark, flash := none }

/-- A lamp's half timer has reached its half-period (R107). -/
def halfDue (n : LampNo) (s : State) : Bool :=
  match s.lamps.lamps[n].mode, s.lamps.lamps[n].flash with
  | .flash, some f => f.timer.reached
  | _, _ => false

/-- R107, R110, R111. -/
def lampHalf (n : LampNo) (s : State) : State :=
  match s.lamps.lamps[n].flash with
  | none => s
  | some f => if halfDue n s then setLampChannel n (halfExpired f) s else s

/-- R112: one lamp leaves the head of the queue and begins its warm-up. -/
def startWarmUp (n : LampNo) (u : LampUnit) : LampUnit :=
  { u with lamps := u.lamps.set n { u.lamps[n] with stage := .warming, warmUp := some (startTimer warmUpTime) } }

/-- The lamp phase has reached 5 ms (R112). -/
def lampPhaseDue (s : State) : Bool := timerReached s.lamps.phase

/-- R112: up to four lamps begin a warm-up; the phase starts again. -/
def lampPhase (s : State) : State :=
  if lampPhaseDue s then
    s.onLamps fun u =>
      let u' := (u.queue.take 4).foldl (fun u n => startWarmUp n u) u
      { u' with queue := u.queue.drop 4, phase := some (startTimer lampPhasePeriod) }
  else s

/-- A WARMING lamp's warm-up timer has reached 20 ms (R112). -/
def warmUpDue (n : LampNo) (s : State) : Bool :=
  decide (s.lamps.lamps[n].stage = .warming) && timerReached s.lamps.lamps[n].warmUp

/-- R112: the lamp is LIT. -/
def warmUp (n : LampNo) (s : State) : State :=
  if warmUpDue n s then
    s.onLamps fun u => { u with lamps := u.lamps.set n { u.lamps[n] with stage := .lit, warmUp := none } }
  else s

/-- LAMP_HALF_EXPIRY (R107). -/
def execLampHalfExpiry (n : LampNo) (s : State) : Host.Outcome State Fault Refusal := .next (lampHalf n s)

/-- LAMP_PHASE_EXPIRY (R112). -/
def execLampPhaseExpiry (s : State) : Host.Outcome State Fault Refusal := .next (lampPhase s)

/-- WARM_UP_EXPIRY (R112). -/
def execWarmUpExpiry (n : LampNo) (s : State) : Host.Outcome State Fault Refusal := .next (warmUp n s)

end Sys2Proof.Machine
end

