-- ==== Sys2Proof/Machine/Ops.lean ====
section
/-! DEFINITION. The shared operations: budget and eligibility, the fire queue, the announce, the coil
channels with their draw, faults and causes, and the effects of a change of link, rail or drive state. -/

namespace Sys2Proof.Machine

/-- The coils in order of number. -/
def allCoils : List CoilNo := List.finRange 16

/-! ### Budget (chapter 2) -/

/-- ceil(d × q / 16): the hold draw of a coil (scope 3.3, R23). -/
def holdDraw (cfg : CoilSettings) : Nat := (cfg.draw * cfg.duty + 15) / 16

/-- What a channel adds to D_own: d in KICK and the hold draw in HOLD for PULSE and LATCH coils, nothing in
any other state, and nothing for a FLIPPER (R22, R23). -/
def drawOf (cfg : CoilSettings) (ch : CoilChannel) : Nat :=
  match cfg.cls, ch.state with
  | .flipper, _ => 0
  | _, .kick => cfg.draw
  | _, .hold => holdDraw cfg
  | _, _ => 0

/-- Table 2-3: the contribution of one peer to the peer sum. -/
def peerDraw (degraded : Bool) (p : Peer) : Nat :=
  if p.stale || degraded then p.ceiling else p.draw + p.reserve

/-- The peer sum P, without saturation (R25). -/
def peerSum (s : State) : Nat := (s.link.peers.map (peerDraw s.link.degraded)).sum

/-- The effective allowance A_eff (R26). -/
def effectiveAllowance (s : State) : Nat := if s.link.degraded then 0 else s.settings.allowance

/-- R27: a kick of draw d fits against the base `base`: rail fit and ceiling fit. -/
def fits (s : State) (base d : Nat) : Bool :=
  decide (base + s.settings.reserve + peerSum s + s.settings.headroom + d ≤ s.settings.capacity) &&
  decide (base + s.settings.reserve + d ≤ s.settings.ceiling)

/-- R27: a kick of draw d is within the allowance on the base `base`. -/
def withinAllowance (s : State) (base d : Nat) : Bool := decide (base + d ≤ effectiveAllowance s)

/-- R28, R32: a kick of this coil may start from the queue. -/
def eligible (s : State) (c : CoilNo) : Bool :=
  decide (s.link.state = .armed) && decide (s.rail.state = .up) && decide (s.faultLine.drive = .normal) &&
  decide (s.coils[c].state = .idle) && decide (s.retained.heat[c] < s.settings.coils[c].trip)

/-! ### The fire queue (chapter 1) -/

/-- The coil's entry in the queue, if it has one (R5). -/
def entryOf (s : State) (c : CoilNo) : Option Entry := s.sched.queue.find? fun e => e.coil == c

/-- R6: a new entry goes before the first entry whose coil has a larger priority number. -/
def insertEntry (prio : CoilNo → Nat) (e : Entry) : List Entry → List Entry
  | [] => [e]
  | x :: xs => if prio e.coil < prio x.coil then e :: x :: xs else x :: insertEntry prio e xs

/-- Change the coil's entry in its place. -/
def mapEntry (c : CoilNo) (f : Entry → Entry) (q : List Entry) : List Entry :=
  q.map fun e => if e.coil = c then f e else e

/-- Take the coil's entry out; those behind close up (R6). -/
def dropEntry (c : CoilNo) (q : List Entry) : List Entry := q.filter fun e => e.coil ≠ c

/-- The announce record after the coil's entry has gone: empty, if it was the announcing one (R38). -/
def announceWithout (c : CoilNo) : Option Announce → Option Announce
  | none => none
  | some a => if a.coil = c then none else some a

/-- Removal of the coil's entry: an announce of it ends, a scan is prompted, and the change of the reported
draw makes the draw slot pending (R13 to R15, R17, R38).  The outcome's counter is the caller's. -/
def removeEntry (c : CoilNo) (s : State) : State :=
  noteDraw s <| promptScan <| s.onSched fun q =>
    { q with queue := dropEntry c q.queue, announce := announceWithout c q.announce }

/-- Remove the coil's entry, if it has one, counting it. -/
def removeCounted (n : Counter) (c : CoilNo) (s : State) : State :=
  if (entryOf s c).isSome then count n (removeEntry c s) else s

/-- Creation of an entry (R4, R6), which prompts a scan (R17). -/
def createEntry (c : CoilNo) (kind : EntryKind) (pulses : Nat) (origin : Origin) (s : State) : State :=
  let e : Entry :=
    { coil := c, kind := kind, pulses := pulses, origin := origin, phase := .queued,
      wait := startTimer (cs s.settings.coils[c].waitLimit) }
  promptScan <| s.onSched fun q =>
    { q with queue := insertEntry (fun x => s.settings.coils[x].priority) e q.queue }

/-- R16: every entry leaves with FLUSHED, and an announce ends as a removal. -/
def flushQueue (s : State) : State :=
  noteDraw s <| promptScan <| s.onSched fun q => { q with queue := [], announce := none }

/-- R37: the ANNOUNCING entry, if any, returns to QUEUED at its place. -/
def withdraw (s : State) : State :=
  match s.sched.announce with
  | none => s
  | some a =>
    noteDraw s <| promptScan <| s.onSched fun q =>
      { q with queue := mapEntry a.coil (fun e => { e with phase := .queued }) q.queue, announce := none }

/-- R10: what a kick start does to the coil's entry. -/
def useEntry (c : CoilNo) (q : List Entry) : List Entry :=
  (mapEntry c (fun e => { e with pulses := e.pulses - 1, phase := .queued,
                                 wait := startTimer e.wait.limit }) q).filter
    fun e => !(decide (e.coil = c) && decide (e.pulses = 0))

/-! ### Coil channels (chapter 3) -/

/-- The output is commanded on in KICK and HOLD (R60). -/
def commandedOn (st : CoilState) : Bool := decide (st = .kick) || decide (st = .hold)

/-- The off-current timer after a change of channel state (R63, R65): stopped while the output is commanded
on; started from 0, if current is sensed, at an entry from KICK or HOLD and at a return from FAULT to
IDLE; otherwise as it was (log entry 6). -/
def offTimerAfter (old new : CoilChannel) (sense : Sense) : Timer :=
  if commandedOn new.state then none
  else if commandedOn old.state || (decide (old.state = .fault) && decide (new.state = .idle)) then
    if sense = .none then none else some (startTimer stuckTime)
  else old.offTimer

/-- A channel with its output off and every timer of its drive stopped. -/
def CoilChannel.stopped (ch : CoilChannel) (st : CoilState) : CoilChannel :=
  { ch with state := st, kickTimer := none, holdTimer := none, restTimer := none, duty := none,
            pwmPhase := 0, driven := 0 }

/-- A channel at the start of a kick of `time` ms (R47, R50). -/
def CoilChannel.kicked (ch : CoilChannel) (time : Nat) : CoilChannel :=
  { ch.stopped .kick with kickTimer := some (startTimer (ms time)), currentSeen := false }

/-- A channel at the start of a hold at duty `q` (R45, R48, R52): the hold-limit timer runs if the limit is
not 0, and the first PWM period begins. -/
def CoilChannel.held (ch : CoilChannel) (limit q : Nat) : CoilChannel :=
  { ch.stopped .hold with
    holdTimer := if limit = 0 then none else some (startTimer (sec limit))
    duty := some q, driven := q }

/-- A channel at the start of a rest of `time` × 10 ms (R47, R49). -/
def CoilChannel.rested (ch : CoilChannel) (time : Nat) : CoilChannel :=
  { ch.stopped .rest with restTimer := some (startTimer (cs time)) }

/-- A change of a channel, with D_own adjusted at the transition itself (R23, Table 2-2), the off-current
timer of R63, and the scan that a return to IDLE prompts (R46). -/
def moveRaw (c : CoilNo) (new : CoilChannel) (s : State) : State :=
  let old := s.coils[c]
  let cfg := s.settings.coils[c]
  let moved := (s.onCoils fun v => v.set c { new with offTimer := offTimerAfter old new s.pins.sense[c] }).onSched
    fun q => { q with committed := q.committed + drawOf cfg new - drawOf cfg old }
  if new.state = .idle ∧ (old.state = .rest ∨ old.state = .lockout ∨ old.state = .fault) then
    promptScan moved
  else moved

/-- `moveRaw`, and what follows its change of D_own and of the reported draw. -/
def moveChannel (c : CoilNo) (new : CoilChannel) (s : State) : State := noteDraw s (moveRaw c new s)

/-- The conditions of R50 on a flipper kick. -/
def pressAllowed (s : State) : Bool :=
  decide (s.faultLine.drive = .normal) &&
  (decide (s.rail.state = .up) || decide (s.rail.state = .sag)) &&
  (decide (s.link.state = .listen) || decide (s.link.state = .announced) ||
   decide (s.link.state = .armed) || decide (s.link.state = .duplicate))

/-- R50, R77: the kick time in force of a flipper kick, halved at level HOT but never less than 1 ms. -/
def flipperKickTime (cfg : CoilSettings) (level : HeatLevel) : Nat :=
  if level = .hot then max 1 (cfg.kickTime / 2) else cfg.kickTime

/-- A flipper kick starts (R50, R55). -/
def flipperKick (c : CoilNo) (s : State) : State :=
  moveChannel c (s.coils[c].kicked (flipperKickTime s.settings.coils[c] s.thermal.levels[c])) s

/-- R53, Table 3-4: the hold duty of a FLIPPER, the smallest of the values that apply. -/
def flipperDuty (q : Nat) (level : HeatLevel) (rail : RailState) : Nat :=
  let weak := if level = .warm ∨ rail = .sag then min q (max 1 (q / 2)) else q
  if level = .hot then min weak 1 else weak

/-- A FLIPPER channel in HOLD chooses its duty again (R53); the new value drives from the next PWM period. -/
def rechooseDuty (c : CoilNo) (s : State) : State :=
  if s.settings.coils[c].cls = .flipper ∧ s.coils[c].state = .hold then
    s.onCoils fun v => v.set c
      { v[c] with duty := some (flipperDuty s.settings.coils[c].duty s.thermal.levels[c] s.rail.state) }
  else s

/-- The end of a rest (R47, R49, R55): the quick re-flip of a FLIPPER whose hold source reads closed with
the needs-release mark clear, or IDLE. -/
def restEnds (c : CoilNo) (s : State) : State :=
  let cfg := s.settings.coils[c]
  let src := s.switches.records.toList.getD cfg.holdSource SwitchRecord.reset
  if cfg.cls = .flipper ∧ src.level = .closed ∧ s.coils[c].needsRelease = false ∧ pressAllowed s = true then
    flipperKick c s
  else moveChannel c (s.coils[c].stopped .idle) s

/-- Entry to REST (R47, R49, R51, R54); a rest time of 0 expires at its entry (R47, R55). -/
def enterRest (c : CoilNo) (s : State) : State :=
  let s := moveChannel c (s.coils[c].rested s.settings.coils[c].restTime) s
  if s.settings.coils[c].restTime = 0 then restEnds c s else s

/-- A set of latched kinds with kind `k` added where the mask enables it (R156). -/
def KindSet.add (set : KindSet) (mask : CauseMask) : FaultKind → KindSet
  | .short => { set with short := set.short || mask.short }
  | .stuck => { set with stuck := set.stuck || mask.stuck }
  | .opened => { set with opened := set.opened || mask.opened }

/-- R156: the fault line unit latches a reported kind that the mask enables; nothing in OFFLINE or HELD. -/
def latchKind (c : CoilNo) (k : FaultKind) (s : State) : State :=
  if s.link.state = .offline ∨ s.link.state = .held then s
  else s.onFaultLine fun f => { f with kinds := f.kinds.set c (f.kinds[c].add s.settings.causeMask k) }

/-- What every report of a fault kind does (R64, R15): DRIVER_FAULT, the cause, and the coil's entry. -/
def reportFault (c : CoilNo) (k : FaultKind) (s : State) : State :=
  removeCounted .refused c (latchKind c k (raise .driverFault s))

/-- Entry into FAULT (R61 to R64). -/
def enterFault (c : CoilNo) (k : FaultKind) (s : State) : State :=
  reportFault c k (moveChannel c { s.coils[c].stopped .fault with faultKind := some k } s)

/-- R56: the drive of one channel in KICK, HOLD or REST ends, straight to IDLE. -/
def endChannel (c : CoilNo) (s : State) : State :=
  if s.coils[c].state = .kick ∨ s.coils[c].state = .hold ∨ s.coils[c].state = .rest then
    moveChannel c (s.coils[c].stopped .idle) s
  else s

/-- R56: every channel of every class. -/
def endAllChannels (s : State) : State := allCoils.foldl (fun s c => endChannel c s) s

/-- R57: every PULSE and LATCH channel. -/
def endQueuedChannels (s : State) : State :=
  allCoils.foldl (fun s c => if s.settings.coils[c].cls = .flipper then s else endChannel c s) s

/-- R53, R58: every FLIPPER channel in HOLD chooses its duty again. -/
def rechooseAll (s : State) : State := allCoils.foldl (fun s c => rechooseDuty c s) s

/-! ### Kick starts from the queue (R32) -/

/-- R32: the entry, the delivered counter, the channel and D_own. -/
def startKickRaw (c : CoilNo) (s : State) : State :=
  let used := count .delivered (s.onSched fun q => { q with queue := useEntry c q.queue })
  moveRaw c (used.coils[c].kicked used.settings.coils[c].kickTime) used

/-- A kick started on the allowance path (R31, R32, R33). -/
def startKick (c : CoilNo) (s : State) : State := noteDraw s (startKickRaw c s)

/-! ### Changes of state that are handed on -/

/-- R126, R135: the transmit queue is cut back to what LISTEN and DUPLICATE may send. -/
def cutTransmit (s : State) : State :=
  s.onBus fun b =>
    { b with
      general := b.general.filter fun g => match g with | .reply _ => true | .switch _ _ _ => false
      drawPending := false
      series := match b.series with
        | none => none
        | some r =>
          if r.kind = .reply then some r
          else if b.wire.isSome then some { r with cut := true } else none }

/-- Whether a rail state is UP. -/
def isUp (r : RailState) : Bool := decide (r = .up)

/-- Whether a rail state is SAG. -/
def isSag (r : RailState) : Bool := decide (r = .sag)

/-- The timers of the rail monitor at entry to a rail state (R152 to R154), by the reading as it stands. -/
def railEntry (new : RailState) (reading vOn vSag : Nat) : RailMonitor :=
  { state := new
    settle := if new = .settling then some (startTimer settleTime) else none
    sagQualify := if new = .up ∧ reading < vSag ∧ vOn ≤ reading then some (startTimer sagTime) else none
    sagClear := if new = .sag ∧ vSag ≤ reading then some (startTimer clearTime) else none }

/-- R155: the sticky event and the counter of a change of rail state. -/
def railReport (old new : RailState) (s : State) : State :=
  match old, new with
  | .up, .sag => count .sagEntries (raise .railSag s)
  | .up, .down => count .railDrops (raise .railDrop s)
  | .sag, .down => count .railDrops (raise .railDrop s)
  | _, _ => s

/-- R155: one change of rail state, and what it hands on. -/
def changeRail (new : RailState) (s : State) : State :=
  let old := s.rail.state
  let s := s.onRail fun _ => railEntry new s.pins.rail s.settings.vOn s.settings.vSag
  let s := railReport old new s
  let s := if isUp old && !isUp new then withdraw s else s
  let s := if new = .down then endAllChannels s else s
  let s := if isSag old = isSag new then s else rechooseAll s
  let s := if isUp old = isUp new then s else markDraw s
  promptScan s

/-- R158: entry to SAFE. -/
def enterSafe (s : State) : State :=
  promptScan <| markDraw <| flushQueue <| endAllChannels <|
    raise .safeEntered <| s.onFaultLine fun f => { f with drive := .safe }

/-- A change of link state alone, with the marks R144 gives every change: the pending mark within R128, and
a scan. -/
def noteLink (s : State) : State := promptScan (markDraw s)

/-- R142, R144, R57, R135, R16: entry to DUPLICATE. -/
def enterDuplicate (s : State) : State :=
  let s := s.onLink fun l =>
    { l with state := .duplicate, listenWindow := none, announcedTimer := none, silence := none }
  let s := raise .duplicate s
  let s := s.onFaultLine fun f => { f with duplicate := f.duplicate || s.settings.causeMask.duplicate }
  noteLink (cutTransmit (endQueuedChannels (flushQueue s)))

/-- R139, R140: entry to ANNOUNCED. -/
def enterAnnounced (s : State) : State :=
  noteLink <| s.onLink fun l =>
    { l with state := .announced
             listenWindow := none
             announcedTimer := some (startTimer (cs s.settings.beat))
             silence := some (startTimer (cs (8 * s.settings.beat)))
             abandonCount := 0 }

/-- R140: entry to ARMED. -/
def enterArmed (s : State) : State :=
  noteLink <| s.onLink fun l => { l with state := .armed, announcedTimer := none }

/-- R141, R144, R135, R37: a loss of link. -/
def loseLink (s : State) : State :=
  let s := s.onLink fun l =>
    { l with state := .listen
             listenWindow := some (startTimer (cs (3 * s.settings.beat)))
             announcedTimer := none
             silence := none }
  noteLink (cutTransmit (withdraw (raise .linkLost s)))

/-! ### Coil requests (chapter 1) -/

/-- R7: a PULSE request that has passed R3. -/
def pulseRequest (c : CoilNo) (n : Nat) (o : Origin) (s : State) : State × Answer :=
  match entryOf s c with
  | some _ =>
    (count .merged (s.onSched fun q =>
      { q with queue := mapEntry c (fun e => { e with pulses := min (e.pulses + n) 15 }) q.queue }), .merged)
  | none =>
    if s.sched.queue.length < 12 then (createEntry c .pulses n o s, .accepted)
    else (raise .queueFull (count .queueFull s), .queueFull)

/-- R8: an ENGAGE request that has passed R3. -/
def engageRequest (c : CoilNo) (o : Origin) (s : State) : State × Answer :=
  if s.coils[c].state = .kick ∨ s.coils[c].state = .hold then (count .merged s, .merged)
  else if (entryOf s c).isSome then (count .merged s, .merged)
  else if s.sched.queue.length < 12 then (createEntry c .engage 1 o s, .accepted)
  else (raise .queueFull (count .queueFull s), .queueFull)

/-- R9: a RELEASE request that has passed R3. -/
def releaseRequest (c : CoilNo) (s : State) : State × Answer :=
  if (entryOf s c).isSome then (removeEntry c s, .cancelled)
  else if s.coils[c].state = .hold then (enterRest c s, .accepted)
  else (s, .accepted)

/-- R2: while the link is HELD or DUPLICATE every request is refused. -/
def linkRefuses (l : LinkState) : Bool := decide (l = .held) || decide (l = .duplicate)

/-- R3, checks 1 and 2: the action suits the coil's class. -/
def actionSuits : CoilClass → CoilAction → Bool
  | .pulse, .pulse => true
  | .latch, .engage => true
  | .latch, .release => true
  | _, _ => false

/-- R1 to R3: one coil request, answered at once. -/
def request (c : CoilNo) (a : CoilAction) (n : Nat) (o : Origin) (s : State) : State × Answer :=
  if linkRefuses s.link.state then (count .refused s, .refused)
  else if actionSuits s.settings.coils[c].cls a = false then (count .refused s, .refused)
  else if s.coils[c].state = .fault then (count .refused s, .refused)
  else if s.coils[c].state = .lockout then (count .lockedOut s, .lockedOut)
  else match a with
    | .pulse => pulseRequest c n o s
    | .engage => engageRequest c o s
    | .release => releaseRequest c s

/-- R1: the count a FIRE frame or a TEST_PULSE presents: 0 is taken as 1. -/
def presentedCount (n : Nat) : Nat := if n = 0 then 1 else n

end Sys2Proof.Machine
end

