-- ==== Sys2Proof/Machine/Rail.lean ====
section
/-! DEFINITION. The rail monitor and the table fault line (chapter 10). -/

namespace Sys2Proof.Machine

/-- R151: the monitor judges the reading in LISTEN, ANNOUNCED, ARMED and DUPLICATE. -/
def railJudged (l : LinkState) : Bool :=
  match l with
  | .offline => false
  | .held => false
  | _ => true

/-- A timer that runs exactly while a condition holds, from 0 each time it begins. -/
def runWhile (cond : Bool) (limit : Nat) (t : Timer) : Timer :=
  if cond then
    match t with
    | none => some (startTimer limit)
    | some c => some c
  else none

/-- R152 to R154: the monitor judges the reading as it stands. -/
def judgeRail (s : State) : State :=
  let v := s.pins.rail
  let vOn := s.settings.vOn
  let vSag := s.settings.vSag
  match s.rail.state with
  | .down => if vOn ≤ v then changeRail .settling s else s
  | .settling => if v < vOn then changeRail .down s else s
  | .up =>
    if v < vOn then changeRail .down s
    else s.onRail fun r => { r with sagQualify := runWhile (decide (v < vSag)) sagTime r.sagQualify }
  | .sag =>
    if v < vOn then changeRail .down s
    else s.onRail fun r => { r with sagClear := runWhile (decide (vSag ≤ v)) clearTime r.sagClear }

/-- R151: the RAILV reading changes. -/
def railReading (v : Nat) (s : State) : State :=
  let s := s.onPins fun p => { p with rail := v }
  if railJudged s.link.state then judgeRail s else s

/-- The settle timer has reached 200 ms (R152). -/
def settleDue (s : State) : Bool := decide (s.rail.state = .settling) && timerReached s.rail.settle

/-- The sag qualify timer has reached 2 ms (R153). -/
def sagQualifyDue (s : State) : Bool := decide (s.rail.state = .up) && timerReached s.rail.sagQualify

/-- The sag clear timer has reached 20 ms (R154). -/
def sagClearDue (s : State) : Bool := decide (s.rail.state = .sag) && timerReached s.rail.sagClear

/-- R157: the station asserts the line while its cause record holds any latched kind or the DUPLICATE mark. -/
def assertsLine (f : FaultLine) : Bool :=
  f.duplicate || f.kinds.toList.any fun k => k.short || k.stuck || k.opened

/-- R158, R159: TFAULT is seen asserted.  A running release settle stops; a NORMAL station enters SAFE.
Before the end of the power-up hold the line is not watched (R161). -/
def lineAsserted (s : State) : State :=
  let s := s.onPins fun p => { p with tfaultLow := true }
  if s.faultLine.watching then
    let s := s.onFaultLine fun f => { f with release := none }
    if s.faultLine.drive = .normal then enterSafe s else s
  else s

/-- R159: TFAULT is seen released, which it cannot be while this station drives it (section 10.2). -/
def lineReleased (s : State) : State :=
  if assertsLine s.faultLine || !s.pins.tfaultLow then s
  else
    let s := s.onPins fun p => { p with tfaultLow := false }
    if s.faultLine.watching && decide (s.faultLine.drive = .safe) then
      s.onFaultLine fun f => { f with release := some (startTimer releaseTime) }
    else s

/-- The release settle timer has reached 100 ms (R159). -/
def releaseDue (s : State) : Bool :=
  decide (s.faultLine.drive = .safe) && timerReached s.faultLine.release

/-- R159: the drive state becomes NORMAL. -/
def releaseSettled (s : State) : State :=
  if releaseDue s then
    promptScan (markDraw (s.onFaultLine fun f => { f with drive := .normal, release := none }))
  else s

/-- R160: CLEAR_FAULT empties a channel's set of latched kinds. -/
def clearKinds (c : CoilNo) (s : State) : State :=
  s.onFaultLine fun f => { f with kinds := f.kinds.set c KindSet.empty }

/-- RAIL_READING_CHANGE (R151 to R155). -/
def execRailReadingChange (v : Byte) (s : State) : Host.Outcome State Fault Refusal :=
  .next (railReading v.toNat s)

/-- SETTLE_TIMER_EXPIRY (R152). -/
def execSettleTimerExpiry (s : State) : Host.Outcome State Fault Refusal :=
  .next (if settleDue s then changeRail .up s else s)

/-- SAG_QUALIFY_EXPIRY (R153). -/
def execSagQualifyExpiry (s : State) : Host.Outcome State Fault Refusal :=
  .next (if sagQualifyDue s then changeRail .sag s else s)

/-- SAG_CLEAR_EXPIRY (R154). -/
def execSagClearExpiry (s : State) : Host.Outcome State Fault Refusal :=
  .next (if sagClearDue s then changeRail .up s else s)

/-- FAULT_LINE_ASSERTED (R158). -/
def execFaultLineAsserted (s : State) : Host.Outcome State Fault Refusal := .next (lineAsserted s)

/-- FAULT_LINE_RELEASED (R159). -/
def execFaultLineReleased (s : State) : Host.Outcome State Fault Refusal := .next (lineReleased s)

/-- RELEASE_SETTLE_EXPIRY (R159). -/
def execReleaseSettleExpiry (s : State) : Host.Outcome State Fault Refusal := .next (releaseSettled s)

end Sys2Proof.Machine
end

