-- ==== Sys2Proof/Machine/Outputs.lean ====
section
/-! DEFINITION. The output pins as functions of the state: CD0–CD15 (R45), LP0–LP23 (R108, R115), STLAMP (R172),
TFAULT (R157) and the bus (R118, R131). -/

namespace Sys2Proof.Machine

/-- R45, Table 3-3: the level of a coil output at this moment: on in KICK, modulated in HOLD, else off. -/
def coilOutput (ch : CoilChannel) : Bool :=
  match ch.state with
  | .kick => true
  | .hold => decide (ch.pwmPhase < ch.driven * pwmStep)
  | _ => false

/-- R108, R115, Table 7-4: the duty of a lamp's drive stage; 0 while the link is OFFLINE or HELD. -/
def lampDuty (l : LinkState) (cfg : LampSettings) (stage : LampStage) : Nat :=
  if lampsRun l then
    match stage with
    | .dark => if cfg.incandescent then cfg.glow else 0
    | .waiting => if cfg.incandescent then cfg.glow else 0
    | .warming => 16
    | .lit => cfg.brightness
  else 0

/-- R108: the level of a lamp output at this moment, by the duty of the PWM period in progress. -/
def lampOutput (s : State) (n : LampNo) : Bool :=
  lampsRun s.link.state && decide (s.lamps.pwmPhase < s.lamps.lamps[n].driven * pwmStep)

/-- Whether any channel is in a state. -/
def anyCoil (s : State) (st : CoilState) : Bool := s.coils.toList.any fun ch => decide (ch.state = st)

/-- R172: the status lamp. -/
def statusLamp (s : State) : Bool :=
  let m := s.settings.statusMask
  if s.link.state = .offline ∨ s.link.state = .held then true
  else
    (m.notArmed && decide (s.link.state ≠ .armed)) || (m.railNotUp && decide (s.rail.state ≠ .up)) ||
    (m.safe && decide (s.faultLine.drive = .safe)) || (m.lockout && anyCoil s .lockout) ||
    (m.fault && anyCoil s .fault) || (m.degraded && s.link.degraded)

/-- R157: the station pulls TFAULT low. -/
def faultLineDriven (s : State) : Bool := assertsLine s.faultLine

/-- The two levels of the line (R118). -/
inductive LineLevel where
  | passive | active
  deriving DecidableEq, Repr

/-- R118: the level of bit time i of a byte on the line: the start bit active, eight data bits with the least
significant first, the stop bit passive.  Which data bit is active is a free value (log entry 28). -/
def byteLevel (x : Byte) (i : Nat) : LineLevel :=
  if i = 0 then .active
  else if i ≤ 8 then if x.getLsbD (i - 1) = Config.activeData then .active else .passive
  else .passive

/-- R118, R131: the level an attempt gives the line: its bytes back to back, 10 bit times each. -/
def Wire.level (w : Wire) : LineLevel :=
  if w.timer.elapsed < w.timer.limit then
    byteLevel (w.frame.bytes.getD (w.timer.elapsed / byteTime) 0) (w.timer.elapsed % byteTime / bits 1)
  else .passive

/-- R118: the level the station gives the line: passive but for an attempt of its own. -/
def lineDriven (s : State) : LineLevel :=
  match s.bus.wire with
  | none => .passive
  | some w => w.level

/-- R118, R131: the station drives the bus only while an attempt is on the wire; the bytes it sends. -/
def busDriven (s : State) : Option (List Byte) := s.bus.wire.map fun w => w.frame.bytes

end Sys2Proof.Machine
end

