-- ==== Sys2Proof/Machine/Coils.lean ====
section
/-! DEFINITION. The coil channels' rows (chapter 3): kick, hold-limit and rest expiries, the OPEN check, the
current sense and the off-current timer; the press and release of a flipper. -/

namespace Sys2Proof.Machine

/-- A channel's kick time in force has passed (R47). -/
def kickDue (c : CoilNo) (s : State) : Bool :=
  decide (s.coils[c].state = .kick) && timerReached s.coils[c].kickTimer

/-- R47, R48, R52: the end of a kick, by class. -/
def kickEnds (c : CoilNo) (s : State) : State :=
  let cfg := s.settings.coils[c]
  match cfg.cls with
  | .pulse => enterRest c s
  | .latch => moveChannel c (s.coils[c].held cfg.holdLimit cfg.duty) s
  | .flipper =>
    moveChannel c (s.coils[c].held cfg.holdLimit (flipperDuty cfg.duty s.thermal.levels[c] s.rail.state)) s

/-- A channel's hold has reached its hold limit (R49, R54). -/
def holdDue (c : CoilNo) (s : State) : Bool :=
  decide (s.coils[c].state = .hold) && timerReached s.coils[c].holdTimer

/-- R49, R54: the hold limit; a FLIPPER sets its needs-release mark. -/
def holdEnds (c : CoilNo) (s : State) : State :=
  if s.settings.coils[c].cls = .flipper then
    enterRest c (s.onCoils fun v => v.set c { v[c] with needsRelease := true })
  else enterRest c s

/-- A channel's rest has passed (R47). -/
def restDue (c : CoilNo) (s : State) : Bool :=
  decide (s.coils[c].state = .rest) && timerReached s.coils[c].restTimer

/-- R60: the channel judges its sense readings in every link state except OFFLINE and HELD. -/
def senseJudged (l : LinkState) : Bool :=
  match l with
  | .offline => false
  | .held => false
  | _ => true

/-- The kick timer has reached 2 ms with the current-seen mark clear (R61). -/
def openCheckDue (c : CoilNo) (s : State) : Bool :=
  match s.coils[c].state, s.coils[c].kickTimer with
  | .kick, some t => decide (openCheckTime ≤ t.elapsed) && !s.coils[c].currentSeen && senseJudged s.link.state
  | _, _ => false

/-- R61, R63: what a sense reading does to a channel's own record: the current-seen mark in KICK, the
off-current timer while the output is commanded off. -/
def CoilChannel.sensed (ch : CoilChannel) (r : Sense) : CoilChannel :=
  if commandedOn ch.state then
    { ch with currentSeen := ch.currentSeen || (decide (ch.state = .kick) && decide (r ≠ .none)) }
  else if r = .none then { ch with offTimer := none }
  else match ch.offTimer with
    | none => { ch with offTimer := some (startTimer stuckTime) }
    | some _ => ch

/-- R60 to R63: a channel's sense reading changes. -/
def senseChanges (c : CoilNo) (r : Sense) (s : State) : State :=
  let s := s.onPins fun p => { p with sense := p.sense.set c r }
  if senseJudged s.link.state then
    let s := s.onCoils fun v => v.set c (v[c].sensed r)
    if r = .over ∧ s.coils[c].state ≠ .fault then enterFault c .short s else s
  else s

/-- The off-current timer has reached 5 ms (R63). -/
def offCurrentDue (c : CoilNo) (s : State) : Bool :=
  timerReached s.coils[c].offTimer && senseJudged s.link.state

/-- The off-current timer starts again (R63). -/
def restartOff (c : CoilNo) (s : State) : State :=
  s.onCoils fun v => v.set c { v[c] with offTimer := some (startTimer stuckTime) }

/-- R63: FAULT STUCK, or a change of kind to STUCK; a channel already STUCK only restarts the timer. -/
def offCurrent (c : CoilNo) (s : State) : State :=
  if s.coils[c].state = .fault then
    if s.coils[c].faultKind = some .stuck then restartOff c s
    else reportFault c .stuck (s.onCoils fun v =>
      v.set c { v[c] with faultKind := some .stuck, offTimer := some (startTimer stuckTime) })
  else restartOff c (enterFault c .stuck s)

/-- R50: a press at one FLIPPER channel. -/
def press (c : CoilNo) (s : State) : State :=
  if s.coils[c].state = .idle ∧ pressAllowed s = true then flipperKick c s else s

/-- R51: a release at one FLIPPER channel; in every state it clears the needs-release mark. -/
def releaseFlipper (c : CoilNo) (s : State) : State :=
  let s := s.onCoils fun v => v.set c { v[c] with needsRelease := false }
  if s.coils[c].state = .kick ∨ s.coils[c].state = .hold then enterRest c s else s

/-- R88: an edge goes to every FLIPPER channel that takes the switch as its hold source. -/
def flipperEdge (sw : SwitchNo) (k : EdgeKind) (s : State) : State :=
  allCoils.foldl (fun s c =>
    if s.settings.coils[c].cls = .flipper ∧ s.settings.coils[c].holdSource = sw.val then
      match k with
      | .close => press c s
      | .opened => releaseFlipper c s
    else s) s

/-- R65: CLEAR_FAULT at one channel in FAULT. -/
def clearChannel (c : CoilNo) (s : State) : State :=
  if s.coils[c].state = .fault then
    moveChannel c { s.coils[c].stopped .idle with faultKind := none } s
  else s

/-- KICK_TIMER_EXPIRY (R47, R48, R52). -/
def execKickTimerExpiry (c : CoilNo) (s : State) : Host.Outcome State Fault Refusal :=
  .next (if kickDue c s then kickEnds c s else s)

/-- HOLD_LIMIT_EXPIRY (R49, R54). -/
def execHoldLimitExpiry (c : CoilNo) (s : State) : Host.Outcome State Fault Refusal :=
  .next (if holdDue c s then holdEnds c s else s)

/-- REST_TIMER_EXPIRY (R47, R55). -/
def execRestTimerExpiry (c : CoilNo) (s : State) : Host.Outcome State Fault Refusal :=
  .next (if restDue c s then restEnds c s else s)

/-- KICK_OPEN_CHECK (R61). -/
def execKickOpenCheck (c : CoilNo) (s : State) : Host.Outcome State Fault Refusal :=
  .next (if openCheckDue c s then enterFault c .opened s else s)

/-- SENSE_READING_CHANGE (R60 to R63). -/
def execSenseReadingChange (c : CoilNo) (r : Sense) (s : State) : Host.Outcome State Fault Refusal :=
  .next (senseChanges c r s)

/-- OFF_CURRENT_TIMER_EXPIRY (R63). -/
def execOffCurrentTimerExpiry (c : CoilNo) (s : State) : Host.Outcome State Fault Refusal :=
  .next (if offCurrentDue c s then offCurrent c s else s)

end Sys2Proof.Machine
end

