-- ==== Sys2Proof/Machine/Operands.lean ====
section
/-! DEFINITION. Reading what a reception brings: the own number, the receive filter, the row of the table a
good frame belongs to, and the fields of the payloads (R121 to R124, R167). -/

namespace Sys2Proof.Machine

/-- R123, R167: the strap number, or 0 when the straps read 0 or 31. -/
def ownNumber (s : State) : Nat :=
  if 1 ≤ s.startUp.strapNumber ∧ s.startUp.strapNumber ≤ 30 then s.startUp.strapNumber else 0

/-- Table 8-2: the payload length suits the kind code. -/
def lengthSuits (kind len : Nat) : Bool :=
  match kind with
  | 1 => decide (len = 6)
  | 2 => decide (len = 2)
  | 3 => decide (len = 2)
  | 4 => decide (len = 3)
  | 5 => decide (1 ≤ len) && decide (len ≤ 3)
  | 6 => decide (2 ≤ len) && decide (len ≤ 12)
  | _ => false

/-- Check 6 of Table 8-9: kind, source and destination. -/
def addressSuits (f : Frame) : Bool :=
  match f.kind with
  | 1 => decide (f.dst = 0) && decide (f.src ≠ 31)
  | 2 => decide (f.dst = 0)
  | 3 => decide (f.dst ≠ 0)
  | 5 => decide (f.dst ≠ 0) && decide (f.src = 31)
  | 6 => false
  | _ => true

/-- Check 7 of Table 8-9: the payload. -/
def payloadSuits (f : Frame) : Bool :=
  match f.kind with
  | 1 => decide (2 ≤ byteAt f.payload 3) && decide (byteAt f.payload 3 ≤ 25)
  | 2 => decide (byteAt f.payload 0 ≤ 31)
  | 3 => decide (byteAt f.payload 0 ≤ 15) && decide (fieldAt f.payload 1 1 0 ≠ 3)
  | _ => true

/-- Where the receive filter sends a good frame (R123, R124). -/
inductive Destination where
  | ignored
  | ownNumber
  | draw
  | switch
  | fire
  | lamp
  | service (code : Nat)
  deriving DecidableEq, Repr

/-- R124: the owner of a frame that has passed every check. -/
def ownerOf (l : LinkState) (f : Frame) : Destination :=
  if f.kind = 4 then .lamp
  else if l = .offline then .ignored
  else match f.kind with
    | 1 => .draw
    | 2 => .switch
    | 3 => .fire
    | 5 => .service (byteAt f.payload 0)
    | _ => .ignored

/-- R123: the checks of Table 8-9 in order, then R124.  A source above 31 fails check 1 (log entry 8). -/
def destination (own : Nat) (l : LinkState) (f : Frame) : Destination :=
  if f.src = 0 ∨ 31 < f.src then .ignored
  else if f.src = own then .ownNumber
  else if f.dst ≠ 0 ∧ f.dst ≠ own then .ignored
  else if f.kind = 0 ∨ 7 ≤ f.kind then .ignored
  else if lengthSuits f.kind f.payload.length = false then .ignored
  else if addressSuits f = false then .ignored
  else if payloadSuits f = false then .ignored
  else ownerOf l f

/-- R122: a reception in progress whose last byte has ended, with no idle gap since.  None while an attempt of
the station's own is on the wire. -/
def receptionEnds (s : State) : Bool :=
  decide (s.bus.receiver = .receiving) && s.bus.wire.isNone && decide (s.bus.byteLeft = 0) &&
  decide (s.bus.idle < idleGap)

/-- The good frame that the bytes `rx` complete, if a reception ends so (R122). -/
def goodFrame (rx : List Byte) (s : State) : Option Frame :=
  if receptionEnds s then
    match classify rx with
    | .good f => some f
    | _ => none
  else none

/-- The good frame that `rx` completes, where the filter sends it to `d`. -/
def goodFrameFor (d : Destination) (rx : List Byte) (s : State) : Option Frame :=
  match goodFrame rx s with
  | none => none
  | some f => if destination (ownNumber s) s.link.state f = d then some f else none

/-- Table 8-4: the edge of a SWITCH payload. -/
def edgeOf (payload : List Byte) : EdgeKind := if bitAt payload 1 7 then .close else .opened

/-- Table 8-5: the action of a FIRE payload; code 3 does not pass the filter. -/
def actionOf (payload : List Byte) : CoilAction :=
  match fieldAt payload 1 1 0 with
  | 0 => .pulse
  | 1 => .engage
  | _ => .release

/-- A coil number, where a number is one. -/
def coilNumber (n : Nat) : Option CoilNo := if h : n < 16 then some ⟨n, h⟩ else none

/-- A switch number, where a number is one. -/
def switchNumber (n : Nat) : Option SwitchNo := if h : n < 32 then some ⟨n, h⟩ else none

end Sys2Proof.Machine
end

