-- ==== Sys2Proof/Machine/Reflex.lean ====
section
/-! DEFINITION. The reflex table (chapter 6): matching, conditions, the walk, and the hand-over of its coil
requests. -/

namespace Sys2Proof.Machine

/-- A coil request of a walk's list (R100). -/
structure CoilRequest where
  coil : CoilNo
  action : CoilAction
  pulses : Nat
  deriving DecidableEq, Repr

/-- The entry's edge field matches the edge's kind (R97). -/
def edgeMatches : EdgeSelect → EdgeKind → Bool
  | .both, _ => true
  | .close, .close => true
  | .opened, .opened => true
  | _, _ => false

/-- R97: the edge matches the entry. -/
def entryMatches (src sw : Nat) (k : EdgeKind) (e : ReflexEntry) : Bool :=
  decide (e.source = src) && decide (e.switch = sw) && edgeMatches e.edge k

/-- R99: the condition, judged against the logical mode of its lamp as it stands. -/
def conditionHolds (c : Condition) (s : State) : Bool :=
  match c with
  | .none => true
  | .lampLit n => decide (s.lamps.lamps[n].mode ≠ .dark)
  | .lampUnlit n => decide (s.lamps.lamps[n].mode = .dark)

/-- R100, R101: an action whose condition holds: a lamp action at once, a coil action to the walk's list. -/
def applyAction (a : ReflexAction) (w : State × List CoilRequest) : State × List CoilRequest :=
  match a with
  | .pulse c n => (w.1, w.2 ++ [{ coil := c, action := .pulse, pulses := n }])
  | .engage c => (w.1, w.2 ++ [{ coil := c, action := .engage, pulses := 1 }])
  | .release c => (w.1, w.2 ++ [{ coil := c, action := .release, pulses := 1 }])
  | .lampOn n => (lampCommand n .on w.1, w.2)
  | .lampOff n => (lampCommand n .off w.1, w.2)
  | .lampToggle n => (lampCommand n .toggle w.1, w.2)
  | .lampFlash n k => (lampCommand n (.flash w.1.settings.lamps[n].halfPeriod k false) w.1, w.2)

/-- R98: one entry's turn in the walk of an edge. -/
def walkEntry (src sw : Nat) (k : EdgeKind) (w : State × List CoilRequest) (slot : Option ReflexEntry) :
    State × List CoilRequest :=
  match slot with
  | none => w
  | some e => if entryMatches src sw k e && conditionHolds e.condition w.1 then applyAction e.action w else w

/-- R98: the walk of one edge through the 48 entries in table order. -/
def walk (src sw : Nat) (k : EdgeKind) (s : State) : State × List CoilRequest :=
  s.reflex.entries.toList.foldl (walkEntry src sw k) (s, [])

/-- R100: the scheduler answers the requests of a list one after another, in table order. -/
def answerList (o : Origin) (l : List CoilRequest) (s : State) : State :=
  l.foldl (fun s r => (request r.coil r.action r.pulses o s).1) s

/-- R96: a local edge is walked in LISTEN, ANNOUNCED, ARMED and DUPLICATE. -/
def walksLocal (l : LinkState) : Bool :=
  match l with
  | .offline => false
  | .held => false
  | _ => true

/-- R96: a remote edge is walked in LISTEN, ANNOUNCED and ARMED. -/
def walksRemote (l : LinkState) : Bool :=
  match l with
  | .listen => true
  | .announced => true
  | .armed => true
  | _ => false

/-- A local edge at the reflex table (R88, R96, R98, R100). -/
def localEdge (src : Nat) (sw : SwitchNo) (k : EdgeKind) (s : State) : State :=
  if walksLocal s.link.state then
    let w := walk src sw.val k s
    answerList .localSwitch w.2 w.1
  else s

/-- A remote edge at the reflex table (R96, R98, R100). -/
def remoteEdge (src sw : Nat) (k : EdgeKind) (s : State) : State :=
  if walksRemote s.link.state then
    let w := walk src sw k s
    answerList .remoteSwitch w.2 w.1
  else s

end Sys2Proof.Machine
end

