-- ==== Sys2Proof/Machine/Link.lean ====
section
/-! DEFINITION. The link unit (chapter 9): the peer draw table, the bus quality window, the remote edge memory,
frames with the own number, and the link unit's rows. -/

namespace Sys2Proof.Machine

/-! ### The peer draw table -/

/-- R146: the stale limit. -/
def staleLimit (own peer : Nat) : Nat := cs (3 * max own peer)

/-- R146: the removal limit. -/
def removalLimit (own peer : Nat) : Nat := cs (20 * max own peer)

/-- R145: the entry a DRAW frame makes. -/
def peerOf (ownBeat : Nat) (f : Frame) : Peer :=
  { station := f.src
    stale := false
    draw := byteAt f.payload 0
    reserve := byteAt f.payload 1
    ceiling := byteAt f.payload 2
    beat := byteAt f.payload 3
    linkCode := byte (byteAt f.payload 4)
    flags := BitVec.ofNat 4 (byteAt f.payload 5)
    silence := startTimer (removalLimit ownBeat (byteAt f.payload 3)) }

/-- R145: entries are kept by station number; one with the same number is refreshed. -/
def insertPeer (p : Peer) : List Peer → List Peer
  | [] => [p]
  | x :: xs =>
    if p.station < x.station then p :: x :: xs
    else if p.station = x.station then p :: xs
    else x :: insertPeer p xs

/-- The entry of a station, if the table holds one. -/
def peerAt (n : Nat) (s : State) : Option Peer := s.link.peers.find? fun p => p.station == n

/-- R143, R145: a DRAW frame at the link unit. -/
def takeDraw (f : Frame) (s : State) : State :=
  if s.link.state = .held then count .ignored s
  else promptScan <| s.onLink fun l => { l with peers := insertPeer (peerOf s.settings.beat f) l.peers }

/-- A PRESENT entry has been silent for its stale limit (R146). -/
def staleDue (n : Nat) (s : State) : Bool :=
  match peerAt n s with
  | none => false
  | some p => !p.stale && decide (staleLimit s.settings.beat p.beat ≤ p.silence.elapsed)

/-- R146: the entry becomes STALE. -/
def makeStale (n : Nat) (s : State) : State :=
  if staleDue n s then
    raise .peerStale <| promptScan <| s.onLink fun l =>
      { l with peers := l.peers.map fun p => if p.station = n then { p with stale := true } else p }
  else s

/-- An entry has been silent for its removal limit (R146). -/
def removalDue (n : Nat) (s : State) : Bool :=
  match peerAt n s with
  | none => false
  | some p => p.silence.reached

/-- R146: the entry is removed. -/
def removePeer (n : Nat) (s : State) : State :=
  if removalDue n s then
    raise .peerLost <| promptScan <| s.onLink fun l =>
      { l with peers := l.peers.filter fun p => p.station ≠ n }
  else s

/-! ### The bus quality monitor -/

/-- R148: the monitor runs in LISTEN, ANNOUNCED, ARMED and DUPLICATE. -/
def qualityRuns (l : LinkState) : Bool :=
  match l with
  | .offline => false
  | .held => false
  | _ => true

/-- R149: a setting or a clearing of DEGRADED is handed on. -/
def setDegraded (d : Bool) (s : State) : State :=
  promptScan (markDraw (s.onLink fun l => { l with degraded := d }))

/-- R148: the end of a window. -/
def endWindow (s : State) : State :=
  let b := s.link.windowBad
  let s := s.onLink fun l => { l with windowFrames := 0, windowBad := 0 }
  if s.settings.quality ≤ b then
    if s.link.degraded then s else raise .busDegraded (setDegraded true s)
  else if b ≤ s.settings.quality / 2 then
    if s.link.degraded then setDegraded false s else s
  else s

/-- The 256th frame of a window has been counted (R148). -/
def windowDue (s : State) : Bool := decide (256 ≤ s.link.windowFrames) && qualityRuns s.link.state

/-- R148: a good or bad frame enters the window; a window already full ends first (log entry 9). -/
def noteFrame (bad : Bool) (s : State) : State :=
  if qualityRuns s.link.state then
    let s := if windowDue s then endWindow s else s
    s.onLink fun l =>
      { l with windowFrames := l.windowFrames + 1, windowBad := l.windowBad + if bad then 1 else 0 }
  else s

/-! ### The remote edge memory -/

/-- R150: the frame's sequence and edge against a record: a gap or none. -/
def isGap (last : Option (Nat × EdgeKind)) (seq : Nat) (e : EdgeKind) : Bool :=
  match last with
  | none => false
  | some (q, k) => !(decide (seq = (q + 1) % 16) && decide (e ≠ k))

/-- The record of a pair, if the memory holds one. -/
def edgeRecordAt (station sw : Nat) (s : State) : Option EdgeRecord :=
  s.link.memory.find? fun r => decide (r.station = station) && decide (r.switch = sw)

/-- R150: the record takes the frame's sequence and edge. -/
def recordEdge (station sw seq : Nat) (e : EdgeKind) (s : State) : State :=
  s.onLink fun l =>
    { l with memory := l.memory.map fun r =>
        if r.station = station ∧ r.switch = sw then { r with last := some (seq, e) } else r }

/-- R150, R143: a SWITCH frame at the link unit: checked where the pair has a record, and handed on. -/
def takeSwitch (f : Frame) (s : State) : State :=
  let sw := byteAt f.payload 0
  let seq := fieldAt f.payload 1 3 0
  let e := edgeOf f.payload
  let s := match edgeRecordAt f.src sw s with
    | none => s
    | some r =>
      let s' := if isGap r.last seq e then raise .switchGap (count .switchGaps s) else s
      recordEdge f.src sw seq e s'
  remoteEdge f.src sw e s

/-! ### Frames with the own number -/

/-- R138, R142, R143: a good frame whose source is the own number. -/
def takeOwnNumber (s : State) : State :=
  match s.link.state with
  | .offline => raise .duplicate (s.onLink fun l => { l with duplicateSeen := true })
  | .held => raise .duplicate s
  | .duplicate => raise .duplicate s
  | _ => enterDuplicate s

/-! ### The link unit's own rows -/

/-- The LISTEN window has reached 3 B (R139). -/
def listenWindowDue (s : State) : Bool :=
  decide (s.link.state = .listen) && timerReached s.link.listenWindow

/-- R139, R128: the window expires and the pending mark is set. -/
def listenWindowEnds (s : State) : State :=
  if listenWindowDue s then markDraw (s.onLink fun l => { l with listenWindow := none }) else s

/-- One beat has passed in ANNOUNCED (R140). -/
def announcedDue (s : State) : Bool :=
  decide (s.link.state = .announced) && timerReached s.link.announcedTimer

/-- The two signs of R141: 8 B of silence, or three abandonments. -/
def linkLossDue (s : State) : Bool :=
  (decide (s.link.state = .announced) || decide (s.link.state = .armed)) &&
  (timerReached s.link.silence || decide (3 ≤ s.link.abandonCount))

/-- LISTEN_WINDOW_EXPIRY (R139). -/
def execListenWindowExpiry (s : State) : Host.Outcome State Fault Refusal := .next (listenWindowEnds s)

/-- ANNOUNCED_TIMER_EXPIRY (R140). -/
def execAnnouncedTimerExpiry (s : State) : Host.Outcome State Fault Refusal :=
  .next (if announcedDue s then enterArmed s else s)

/-- LINK_LOST (R141). -/
def execLinkLost (s : State) : Host.Outcome State Fault Refusal :=
  .next (if linkLossDue s then loseLink s else s)

/-- PEER_STALE_EXPIRY (R146). -/
def execPeerStaleExpiry (n : Nat) (s : State) : Host.Outcome State Fault Refusal := .next (makeStale n s)

/-- PEER_REMOVAL_EXPIRY (R146). -/
def execPeerRemovalExpiry (n : Nat) (s : State) : Host.Outcome State Fault Refusal := .next (removePeer n s)

/-- QUALITY_WINDOW_END (R148). -/
def execQualityWindowEnd (s : State) : Host.Outcome State Fault Refusal :=
  .next (if windowDue s then endWindow s else s)

end Sys2Proof.Machine
end

