-- ==== Sys2Proof/Machine/Thermal.lean ====
section
/-! DEFINITION. The thermal unit (chapter 4): cooling, heating and classification at each interval. -/

namespace Sys2Proof.Machine

/-- The warn level: trip − floor(trip/4) (Table 4-1). -/
def warnLevel (trip : Nat) : Nat := trip - trip / 4

/-- The release level: floor(trip/2) (Table 4-1). -/
def releaseLevel (trip : Nat) : Nat := trip / 2

/-- R70: the cooling step. -/
def cooled (shift t : Nat) : Nat := if t = 0 then 0 else t - (t / 2 ^ shift + 1)

/-- R71, Table 4-3: the heat a channel gains at an expiry. -/
def heatGain (cfg : CoilSettings) (ch : CoilChannel) : Nat :=
  match ch.state, ch.duty with
  | .kick, _ => cfg.heatRate
  | .hold, some q => cfg.heatRate * q / 16
  | _, _ => 0

/-- R70, R71: T after the cooling and heating of one expiry. -/
def heatedAfter (cfg : CoilSettings) (ch : CoilChannel) (t : Nat) : Nat :=
  min 65535 (cooled cfg.shift t + heatGain cfg ch)

/-- R76: the heat level of T. -/
def heatLevel (trip t : Nat) : HeatLevel :=
  if trip ≤ t then .hot else if warnLevel trip ≤ t then .warm else .normal

/-- R72: the states from which a PULSE or LATCH channel enters LOCKOUT. -/
def lockable (st : CoilState) : Bool :=
  match st with
  | .idle => true
  | .kick => true
  | .hold => true
  | .rest => true
  | _ => false

/-- R59, R72: entry to LOCKOUT. -/
def enterLockout (c : CoilNo) (s : State) : State :=
  raise .lockout (removeCounted .lockedOut c (moveChannel c (s.coils[c].stopped .lockout) s))

/-- R66, R74, R79: a T at or above trip that a reset has kept puts its channel into LOCKOUT at the first interval,
whatever the first cooling leaves of it (log entry 25). -/
def keptAtTrip (c : CoilNo) (s : State) : Bool :=
  s.thermal.firstInterval && decide (s.settings.coils[c].trip ≤ s.retained.heat[c])

/-- R72, R73: the lockout part of the classification step; `kept` stands for a T at or above trip. -/
def classifyLockout (kept : Bool) (c : CoilNo) (s : State) : State :=
  let cfg := s.settings.coils[c]
  let t := s.retained.heat[c]
  if cfg.cls ≠ .flipper ∧ (kept = true ∨ cfg.trip ≤ t) ∧ lockable s.coils[c].state = true then enterLockout c s
  else if s.coils[c].state = .lockout ∧ t ≤ releaseLevel cfg.trip then
    moveChannel c (s.coils[c].stopped .idle) s
  else s

/-- R76: the level part of the classification step; a change is handed to a FLIPPER channel (R53). -/
def classifyLevel (c : CoilNo) (s : State) : State :=
  let level := heatLevel s.settings.coils[c].trip s.retained.heat[c]
  if s.thermal.levels[c] = level then s
  else rechooseDuty c (s.onThermal fun t => { t with levels := t.levels.set c level })

/-- R70, R71: one channel's accumulator at an expiry.  A T that crosses the trip level changes eligibility, and
so prompts a scan (R28, R29). -/
def heatChannel (c : CoilNo) (s : State) : State :=
  let cfg := s.settings.coils[c]
  let t := s.retained.heat[c]
  let t' := heatedAfter cfg s.coils[c] t
  let s' := s.onRetained fun r => { r with heat := r.heat.set c t' }
  if decide (t < cfg.trip) = decide (t' < cfg.trip) then s' else promptScan s'

/-- R69: one channel at an interval expiry: cooling, heating, then classification.  The T that a reset has kept is
judged as the expiry finds it (R66, R79; log entry 25). -/
def thermalChannel (c : CoilNo) (s : State) : State :=
  classifyLevel c (classifyLockout (keptAtTrip c s) c (heatChannel c s))

/-- R69: the interval runs in LISTEN, ANNOUNCED, ARMED and DUPLICATE. -/
def thermalRuns (l : LinkState) : Bool :=
  match l with
  | .offline => false
  | .held => false
  | _ => true

/-- The thermal interval has reached 1 ms (R69). -/
def thermalDue (s : State) : Bool := thermalRuns s.link.state && timerReached s.thermal.interval

/-- R69: every channel, and the interval starts again; the first expiry is past. -/
def thermalInterval (s : State) : State :=
  if thermalDue s then
    (allCoils.foldl (fun s c => thermalChannel c s) s).onThermal fun t =>
      { t with interval := some (startTimer thermalPeriod), firstInterval := false }
  else s

/-- THERMAL_INTERVAL_EXPIRY (R69). -/
def execThermalIntervalExpiry (s : State) : Host.Outcome State Fault Refusal := .next (thermalInterval s)

end Sys2Proof.Machine
end

