-- ==== Sys2Proof/Machine/Service.lean ====
section
/-! DEFINITION. The service unit (sections 11.3 and 11.4): taking a request, the effect of each, the pending
reply, and the composition of a reply from the state as it stands at an attempt. -/

namespace Sys2Proof.Machine

/-! ### The pending reply (R126, R168) -/

/-- Reply status codes (Table 8-8). -/
def statusOk : Nat := 0
/-- RANGE. -/
def statusRange : Nat := 1
/-- REFUSED. -/
def statusRefused : Nat := 2
/-- UNKNOWN. -/
def statusUnknown : Nat := 3

/-- Whether a general entry is the SVC_REPLY. -/
def isReply : GeneralEntry → Bool
  | .reply _ => true
  | .switch _ _ _ => false

/-- An attempt of the SVC_REPLY is on the wire. -/
def replyOnWire (b : Bus) : Bool :=
  match b.series with
  | none => false
  | some r => decide (r.kind = .reply) && b.wire.isSome

/-- R126: a request is taken when it can replace the SVC_REPLY entry or find room for one. -/
def requestTaken (b : Bus) : Bool :=
  if b.general.any isReply then !replyOnWire b else decide (b.general.length < 15)

/-- R126: the reply takes the single SVC_REPLY entry in place, or joins the tail. -/
def placeReply (r : Reply) (s : State) : State :=
  s.onBus fun b =>
    { b with general :=
        if b.general.any isReply then b.general.map fun g => if isReply g then .reply r else g
        else b.general ++ [.reply r] }

/-- A reply with no data. -/
def bareReply (code status : Nat) : Reply := { code := code, status := status, data := .fixed [], restart := false }

/-- A reply of status OK. -/
def okReply (code : Nat) (data : ReplyData) : Reply :=
  { code := code, status := statusOk, data := data, restart := false }

/-- Argument i of a request, if it is there and at most `hi` (R168). -/
def argument (args : List Byte) (i lo hi : Nat) : Option Nat :=
  if i < args.length then
    if lo ≤ byteAt args i ∧ byteAt args i ≤ hi then some (byteAt args i) else none
  else none

/-! ### What each request does when it is taken, and its reply (Table 11-4, R168) -/

/-- STATUS. -/
def serveStatus (_ : List Byte) (s : State) : State × Reply := (s, okReply 1 .status)

/-- READ_EVENTS. -/
def serveReadEvents (_ : List Byte) (s : State) : State × Reply := (s, okReply 2 .events)

/-- READ_COUNTERS. -/
def serveReadCounters (args : List Byte) (s : State) : State × Reply :=
  match argument args 0 0 2 with
  | none => (s, bareReply 3 statusRange)
  | some g => (s, okReply 3 (.counters g))

/-- READ_PEER. -/
def serveReadPeer (args : List Byte) (s : State) : State × Reply :=
  match argument args 0 1 30 with
  | none => (s, bareReply 4 statusRange)
  | some n => (s, okReply 4 (.peer n))

/-- READ_COIL. -/
def serveReadCoil (args : List Byte) (s : State) : State × Reply :=
  match (argument args 0 0 15).bind coilNumber with
  | none => (s, bareReply 5 statusRange)
  | some c => (s, okReply 5 (.coil c))

/-- READ_SWITCH. -/
def serveReadSwitch (args : List Byte) (s : State) : State × Reply :=
  match (argument args 0 0 31).bind switchNumber with
  | none => (s, bareReply 6 statusRange)
  | some n => (s, okReply 6 (.switch n))

/-- The outcome byte of TEST_PULSE (Table 11-4). -/
def answerCode : Answer → Nat
  | .accepted => 0
  | .merged => 1
  | .cancelled => 0
  | .refused => 2
  | .lockedOut => 3
  | .queueFull => 4

/-- The status of TEST_PULSE by its outcome (R168). -/
def answerStatus : Answer → Nat
  | .accepted => statusOk
  | .merged => statusOk
  | .cancelled => statusOk
  | .refused => statusRefused
  | .lockedOut => statusRefused
  | .queueFull => statusRefused

/-- TEST_PULSE (R1, R168). -/
def serveTestPulse (args : List Byte) (s : State) : State × Reply :=
  match (argument args 0 0 15).bind coilNumber, argument args 1 0 15 with
  | some c, some n =>
    let r := request c .pulse (presentedCount n) .service s
    (r.1, { code := 7, status := answerStatus r.2, data := .fixed [byte (answerCode r.2)], restart := false })
  | _, _ => (s, bareReply 7 statusRange)

/-- SET_LAMP (R114, R168). -/
def serveSetLamp (args : List Byte) (s : State) : State × Reply :=
  match argument args 0 0 255, argument args 1 0 3 with
  | some n, some mode =>
    if (lampsNamed n).isEmpty then (s, bareReply 8 statusRange)
    else if lampsRun s.link.state then
      (commandLamps (lampsNamed n) mode 0 0 false s, okReply 8 (.fixed []))
    else (s, bareReply 8 statusRefused)
  | _, _ => (s, bareReply 8 statusRange)

/-- The coils that a CLEAR_FAULT argument names (R65, R160). -/
def coilsNamed (n : Nat) : List CoilNo :=
  if h : n < 16 then [⟨n, h⟩] else if n = 255 then allCoils else []

/-- The channels among `cs` that are in FAULT. -/
def faultedAmong (cs : List CoilNo) (s : State) : Nat :=
  (cs.filter fun c => decide (s.coils[c].state = .fault)).length

/-- R65, R160: the channels named return to IDLE and their latched kinds are emptied. -/
def clearFaults (cs : List CoilNo) (s : State) : State :=
  cs.foldl (fun s c => clearKinds c (clearChannel c s)) s

/-- CLEAR_FAULT (R65, R160, R168). -/
def serveClearFault (args : List Byte) (s : State) : State × Reply :=
  match argument args 0 0 255 with
  | none => (s, bareReply 9 statusRange)
  | some n =>
    if (coilsNamed n).isEmpty then (s, bareReply 9 statusRange)
    else (clearFaults (coilsNamed n) s, okReply 9 (.fixed [byte (faultedAmong (coilsNamed n) s)]))

/-- RESTART (R168, R169): acts on nothing when taken. -/
def serveRestart (_ : List Byte) (s : State) : State × Reply :=
  (s, { code := 10, status := statusOk, data := .fixed [], restart := true })

/-- A request code that is not in Table 11-4 (R168). -/
def serveUnknown (code : Nat) (_ : List Byte) (s : State) : State × Reply := (s, bareReply code statusUnknown)

/-- R126, R168: a request is judged and acts only if it is taken; otherwise it is counted as ignored. -/
def serveRequest (act : List Byte → State → State × Reply) (args : List Byte) (s : State) : State :=
  if requestTaken s.bus then
    let r := act args s
    placeReply r.2 r.1
  else count .ignored s

/-! ### Composition of a reply (Table 11-4, R169) -/

/-- The link state code (Table 8-3). -/
def linkCode : LinkState → Nat
  | .offline => 0
  | .listen => 1
  | .announced => 2
  | .armed => 3
  | .duplicate => 4
  | .held => 5

/-- The rail state code. -/
def railCode : RailState → Nat
  | .down => 0
  | .settling => 1
  | .up => 2
  | .sag => 3

/-- The channel state code. -/
def coilCode : CoilState → Nat
  | .idle => 0
  | .kick => 1
  | .hold => 2
  | .rest => 3
  | .lockout => 4
  | .fault => 5

/-- The fault kind code. -/
def kindCode : Option FaultKind → Nat
  | none => 0
  | some .opened => 1
  | some .short => 2
  | some .stuck => 3

/-- The heat level code. -/
def levelCode : HeatLevel → Nat
  | .normal => 0
  | .warm => 1
  | .hot => 2

/-- The debounced level code. -/
def switchCode : SwitchLevel → Nat
  | .unsettled => 0
  | .opened => 1
  | .closed => 2

/-- The origin code, in the order of Table 1-2. -/
def originCode : Origin → Nat
  | .localSwitch => 0
  | .remoteSwitch => 1
  | .fireFrame => 2
  | .service => 3

/-- The reset cause code. -/
def causeCode : ResetCause → Nat
  | .powerOn => 0
  | .supplyDip => 1
  | .serviceRestart => 2

/-- The load outcome code. -/
def outcomeCode : Option LoadOutcome → Nat
  | none => 0
  | some .accepted => 0
  | some .readError => 1
  | some .format => 2
  | some .length => 3
  | some .check => 4
  | some .station => 5
  | some .capacity => 6
  | some .reserve => 7
  | some .holdSource => 8
  | some .coilDraw => 9

/-- A flag as a number at bit b. -/
def flagBit (b : Nat) (f : Bool) : Nat := if f then 2 ^ b else 0

/-- The data of a STATUS reply. -/
def statusData (s : State) : List Byte :=
  [byte (linkCode s.link.state),
   byte (railCode s.rail.state + flagBit 2 (decide (s.faultLine.drive = .safe)) +
     flagBit 3 s.link.degraded + flagBit 4 (decide (s.service.events ≠ 0))),
   byte s.sched.committed, byte s.settings.reserve, byte s.sched.queue.length,
   byte (causeCode s.retained.cause)] ++ pair s.retained.dipCount ++
  [byte s.reflex.setAside, byte (outcomeCode s.startUp.outcome)]

/-- The data of a READ_COUNTERS reply: the five counters of a group, two bytes each. -/
def countersData (g : Nat) (s : State) : List Byte :=
  ((s.service.counters.toList.drop (5 * g)).take 5).flatMap pair

/-- The data of a READ_PEER reply. -/
def peerData (n : Nat) (s : State) : List Byte :=
  match peerAt n s with
  | none => [byte 0]
  | some p =>
    [byte (if p.stale then 2 else 1), byte p.draw, byte p.reserve, byte p.ceiling, byte p.beat, p.linkCode,
     byte p.flags.toNat]

/-- The part of a READ_COIL reply that describes the coil's entry: the entry byte, the pulses remaining and the
wait elapsed in ms.  The wait is in whole milliseconds, rounded down (log entry 24).  For an absent entry only bit 0
of the entry byte has a stated value; the bits the table names for an entry are free values, numbered from `k` (log
entry 1). -/
def entryData (k : Nat) : Option Entry → List Byte
  | some e =>
    [byte (1 + flagBit 1 (decide (e.kind = .engage)) + flagBit 2 (decide (e.phase = .announcing)) +
       16 * originCode e.origin), byte e.pulses] ++ pair (e.wait.elapsed / ms 1)
  | none => [Config.freeByte k &&& 0x36#8, Config.freeByte (k + 1), Config.freeByte (k + 2), Config.freeByte (k + 3)]

/-- The data of a READ_COIL reply. -/
def coilData (c : CoilNo) (s : State) : List Byte :=
  [byte (coilCode s.coils[c].state), byte (kindCode s.coils[c].faultKind)] ++ pair s.retained.heat[c] ++
  [byte (levelCode s.thermal.levels[c])] ++ entryData s.freeIndex (entryOf s c)

/-- The data of a READ_SWITCH reply. -/
def switchData (sw : SwitchNo) (s : State) : List Byte :=
  let r := s.switches.records[sw]
  [byte (switchCode r.level)] ++ pair r.edgeCount.toNat ++ pair r.lastEdge.toNat ++ [byte r.sequence.toNat]

/-- The data of a pending reply, as the state stands (R168, R169). -/
def replyData (d : ReplyData) (s : State) : List Byte :=
  match d with
  | .fixed l => l
  | .status => statusData s
  | .events => pair s.service.events.toNat
  | .counters g => countersData g s
  | .peer n => peerData n s
  | .coil c => coilData c s
  | .switch sw => switchData sw s

/-- R169: the frame of a reply: from the own number to station 31. -/
def replyFrame (r : Reply) (s : State) : Frame :=
  { src := ownNumber s, dst := 31, kind := 6, payload := byte r.code :: byte r.status :: replyData r.data s }

/-- R170: a READ_EVENTS sample clears every raised-since-sample mark; a READ_COIL sample of an absent entry
uses four free values. -/
def sampled (d : ReplyData) (s : State) : State :=
  match d with
  | .events => s.onService fun v => { v with raised := 0 }
  | .coil c => if (entryOf s c).isSome then s else s.onFreeIndex fun k => k + 4
  | _ => s

/-- R170: at the completion of a READ_EVENTS reply every event it carried is cleared, unless it has been raised
since the sample. -/
def eventsReported (carried : Half) (s : State) : State :=
  s.onService fun v => { v with events := v.events &&& ~~~(carried &&& ~~~v.raised) }

end Sys2Proof.Machine
end

