-- ==== Sys2Proof/Machine/Receive.lean ====
section
/-! DEFINITION. The receive side of the bus interface (sections 8.3): start bits, fragments, and the rows of
complete frames, each handed to its owner. -/

namespace Sys2Proof.Machine

/-- An idle gap has come while a reception was in progress, or after bytes that followed a complete frame
(R122): a fragment ends. -/
def fragmentDue (s : State) : Bool :=
  (decide (s.bus.receiver = .receiving) || decide (s.bus.receiver = .discarding)) && s.bus.wire.isNone &&
  decide (s.bus.byteLeft = 0) && decide (idleGap ≤ s.bus.idle)

/-- R122, R125: a fragment is counted. -/
def endFragment (s : State) : State :=
  if fragmentDue s then count .fragments (s.onBus fun b => { b with receiver := .between }) else s

/-- R118: a second station drives the line during an attempt, in the byte in progress.  That byte will not read back
as it was sent; of several such bytes the first decides. -/
def Wire.clashed (w : Wire) : Wire :=
  if w.timer.elapsed < w.timer.limit ∧ w.clashAt = none then
    { w with clashAt := some ((w.timer.elapsed / byteTime + 1) * byteTime) }
  else w

/-- R122: the receiver at a start bit of another station, with no attempt of the station's own on the wire. -/
def Bus.receiverAtStart (b : Bus) : Receiver :=
  if b.receiver = .receiving then .receiving
  else if b.byteLeft = 0 ∧ idleGap ≤ b.idle then .receiving
  else if b.receiver = .complete then .discarding
  else b.receiver

/-- R118, R122, R130: another station's start bit.  The count of idle bit times stops, to start again from 0 at the
end of this byte.  A reception begins if an idle gap has been seen; while an attempt of the station's own is on the
wire there is no reception, and the byte in progress is contended.  Before the receiver has started it does
nothing. -/
def startBit (s : State) : State :=
  if s.bus.started then
    match s.bus.wire with
    | some w => s.onBus fun b => { b with byteLeft := byteTime, idle := 0, wire := some w.clashed }
    | none => (endFragment s).onBus fun b => { b with byteLeft := byteTime, idle := 0, receiver := b.receiverAtStart }
  else s

/-- R122: a reception is complete. -/
def received (s : State) : State := s.onBus fun b => { b with receiver := .complete }

/-- R122, R125, R141, R148: what every good frame does before the filter: it is counted, starts the silence timer
again and enters the quality window. -/
def takeGood (s : State) : State := noteFrame false (heard (count .good (received s)))

/-- A row of a good frame: nothing, unless `rx` completes a frame that the filter sends to `d`. -/
def goodRow (d : Destination) (rx : List Byte) (owner : Frame → State → State) (s : State) : State :=
  match goodFrameFor d rx s with
  | none => s
  | some f => owner f (takeGood s)

/-- R168: a code that is not in Table 11-4. -/
def unknownCode (code : Nat) : Bool := decide (code = 0) || decide (10 < code)

/-- A row of a service request: the request code's frame, and what the request does. -/
def serviceRow (code : Nat) (act : List Byte → State → State × Reply) (rx : List Byte) (s : State) : State :=
  goodRow (.service code) rx (fun f s => serveRequest act (f.payload.drop 1) s) s

/-- R1: a FIRE frame becomes a coil request of origin FIRE_FRAME. -/
def takeFire (f : Frame) (s : State) : State :=
  match coilNumber (byteAt f.payload 0) with
  | none => s
  | some c => (request c (actionOf f.payload) (presentedCount (fieldAt f.payload 1 7 4)) .fireFrame s).1

/-- R122: a bad frame is counted and enters the quality window. -/
def badReception (rx : List Byte) (s : State) : State :=
  if receptionEnds s ∧ classify rx = .bad then noteFrame true (count .bad (received s)) else s

/-- R168: a request whose code is not in Table 11-4. -/
def unknownRequest (rx : List Byte) (s : State) : State :=
  match goodFrame rx s with
  | none => s
  | some f =>
    let code := byteAt f.payload 0
    if unknownCode code then serviceRow code (serveUnknown code) rx s else s

/-- START_BIT_ON_LINE (R130). -/
def execStartBitOnLine (s : State) : Host.Outcome State Fault Refusal := .next (startBit s)

/-- FRAGMENT (R122). -/
def execFragment (s : State) : Host.Outcome State Fault Refusal := .next (endFragment s)

/-- BAD_FRAME (R122). -/
def execBadFrame (rx : List Byte) (s : State) : Host.Outcome State Fault Refusal := .next (badReception rx s)

/-- FILTERED_FRAME (R123, R124). -/
def execFilteredFrame (rx : List Byte) (s : State) : Host.Outcome State Fault Refusal :=
  .next (goodRow .ignored rx (fun _ s => count .ignored s) s)

/-- OWN_NUMBER_FRAME (R123, R142). -/
def execOwnNumberFrame (rx : List Byte) (s : State) : Host.Outcome State Fault Refusal :=
  .next (goodRow .ownNumber rx (fun _ s => takeOwnNumber s) s)

/-- DRAW_FRAME (R145). -/
def execDrawFrame (rx : List Byte) (s : State) : Host.Outcome State Fault Refusal :=
  .next (goodRow .draw rx takeDraw s)

/-- SWITCH_FRAME (R150). -/
def execSwitchFrame (rx : List Byte) (s : State) : Host.Outcome State Fault Refusal :=
  .next (goodRow .switch rx takeSwitch s)

/-- FIRE_FRAME (R1). -/
def execFireFrame (rx : List Byte) (s : State) : Host.Outcome State Fault Refusal :=
  .next (goodRow .fire rx takeFire s)

/-- LAMP_FRAME (R113). -/
def execLampFrame (rx : List Byte) (s : State) : Host.Outcome State Fault Refusal :=
  .next (goodRow .lamp rx (fun f s => takeLampFrame f.payload s) s)

/-- STATUS (R168). -/
def execStatus (rx : List Byte) (s : State) : Host.Outcome State Fault Refusal :=
  .next (serviceRow 1 serveStatus rx s)

/-- READ_EVENTS (R168, R170). -/
def execReadEvents (rx : List Byte) (s : State) : Host.Outcome State Fault Refusal :=
  .next (serviceRow 2 serveReadEvents rx s)

/-- READ_COUNTERS (R168, R171). -/
def execReadCounters (rx : List Byte) (s : State) : Host.Outcome State Fault Refusal :=
  .next (serviceRow 3 serveReadCounters rx s)

/-- READ_PEER (R147, R168). -/
def execReadPeer (rx : List Byte) (s : State) : Host.Outcome State Fault Refusal :=
  .next (serviceRow 4 serveReadPeer rx s)

/-- READ_COIL (R18, R168). -/
def execReadCoil (rx : List Byte) (s : State) : Host.Outcome State Fault Refusal :=
  .next (serviceRow 5 serveReadCoil rx s)

/-- READ_SWITCH (R91, R168). -/
def execReadSwitch (rx : List Byte) (s : State) : Host.Outcome State Fault Refusal :=
  .next (serviceRow 6 serveReadSwitch rx s)

/-- TEST_PULSE (R1, R168). -/
def execTestPulse (rx : List Byte) (s : State) : Host.Outcome State Fault Refusal :=
  .next (serviceRow 7 serveTestPulse rx s)

/-- SET_LAMP (R114, R168). -/
def execSetLamp (rx : List Byte) (s : State) : Host.Outcome State Fault Refusal :=
  .next (serviceRow 8 serveSetLamp rx s)

/-- CLEAR_FAULT (R65, R160, R168). -/
def execClearFault (rx : List Byte) (s : State) : Host.Outcome State Fault Refusal :=
  .next (serviceRow 9 serveClearFault rx s)

/-- RESTART (R168, R169). -/
def execRestart (rx : List Byte) (s : State) : Host.Outcome State Fault Refusal :=
  .next (serviceRow 10 serveRestart rx s)

/-- SVC_UNKNOWN_REQUEST (R168). -/
def execSvcUnknownRequest (rx : List Byte) (s : State) : Host.Outcome State Fault Refusal :=
  .next (unknownRequest rx s)

end Sys2Proof.Machine
end

