-- ==== Sys2Proof/Machine/Scheduler.lean ====
section
/-! DEFINITION. The fire scheduler's rows (chapters 1 and 2): SCAN, ANNOUNCE_TIMER_EXPIRY and
WAIT_LIMIT_EXPIRY, and the operations of the announce at a DRAW attempt and its completion. -/

namespace Sys2Proof.Machine

/-- R34: the candidate enters ANNOUNCING and the announce record is filled. -/
def enterAnnouncing (c : CoilNo) (s : State) : State :=
  noteDraw s <| s.onSched fun q =>
    { q with queue := mapEntry c (fun e => { e with phase := .announcing }) q.queue
             announce := some { coil := c, draw := s.settings.coils[c].draw
                                timer := startTimer announceLimit, carried := false } }

/-- R30: the candidate of a scan, the first eligible entry from the front. -/
def candidate (s : State) : Option Entry := s.sched.queue.find? fun e => eligible s e.coil

/-- R31: a QUEUED candidate when no entry is ANNOUNCING. -/
def scanAlone (c : CoilNo) (s : State) : State :=
  let d := s.settings.coils[c].draw
  if fits s s.sched.committed d then
    if withinAllowance s s.sched.committed d then startKick c s else enterAnnouncing c s
  else s

/-- R33: a QUEUED candidate ahead of the ANNOUNCING entry. -/
def scanAhead (c : CoilNo) (announced : Nat) (s : State) : State :=
  let d := s.settings.coils[c].draw
  let base := s.sched.committed + announced
  if fits s base d && withinAllowance s base d then startKick c s else s

/-- R30: what a scan does with its candidate. -/
def scanQueue (s : State) : State :=
  match candidate s with
  | none => s
  | some e =>
    match s.sched.announce with
    | none => scanAlone e.coil s
    | some a => if e.coil = a.coil then s else scanAhead e.coil a.draw s

/-- R29, R30: a scan is made when one is owed, and then none is owed until the next prompt. -/
def scan (s : State) : State :=
  if s.sched.scanDue then scanQueue (s.onSched fun q => { q with scanDue := false }) else s

/-- The announce timer has reached 20 ms (R37). -/
def announceDue (s : State) : Bool :=
  match s.sched.announce with
  | none => false
  | some a => a.timer.reached

/-- R37. -/
def announceExpired (s : State) : State := if announceDue s then withdraw s else s

/-- The coil's entry has waited its wait limit (R13). -/
def waitDue (c : CoilNo) (s : State) : Bool :=
  match entryOf s c with
  | none => false
  | some e => e.wait.reached

/-- R13: EXPIRED. -/
def waitExpired (c : CoilNo) (s : State) : State :=
  if waitDue c s then raise .expired (count .expired (removeEntry c s)) else s

/-- R36: the re-test of the ANNOUNCING entry at the start of an attempt of the draw slot. -/
def retest (s : State) : State :=
  match s.sched.announce with
  | none => s
  | some a =>
    if fits s s.sched.committed a.draw then
      s.onSched fun q => { q with announce := some { a with carried := true } }
    else withdraw s

/-- R40, step 1: the announced kick.  The record is emptied and the kick starts, in one change of the
reported draw; the conditions of R32 are looked at again (log entry 7). -/
def startAnnounced (s : State) : State :=
  match s.sched.announce with
  | none => s
  | some a =>
    if a.carried then
      if eligible s a.coil then
        promptScan <| noteDraw s <| startKickRaw a.coil <| s.onSched fun q => { q with announce := none }
      else withdraw s
    else s

/-- R40: at the completion of a DRAW that carried `drawRep`. -/
def drawCompleted (drawRep : Nat) (s : State) : State :=
  let s := startAnnounced s
  if drawRep = reportedDraw s then s else markDraw s

/-- SCAN (R30). -/
def execScan (s : State) : Host.Outcome State Fault Refusal := .next (scan s)

/-- ANNOUNCE_TIMER_EXPIRY (R37). -/
def execAnnounceTimerExpiry (s : State) : Host.Outcome State Fault Refusal := .next (announceExpired s)

/-- WAIT_LIMIT_EXPIRY (R13). -/
def execWaitLimitExpiry (c : CoilNo) (s : State) : Host.Outcome State Fault Refusal :=
  .next (waitExpired c s)

end Sys2Proof.Machine
end

