-- ==== Sys2Proof/Machine/Image.lean ====
section
/-! DEFINITION. The configuration image (section 11.2): its layout (Tables 11-1 and 11-2), the clamps of R166,
R78, R82 and R105, the load of the reflex table (R93, R94), and the acceptance checks of Table 11-3. -/

namespace Sys2Proof.Machine

/-- The length of the image (R164). -/
def imageLength : Nat := 634

/-- A value clamped to lo–hi (scope 3.2). -/
def clamp (lo hi n : Nat) : Nat := min hi (max lo n)

/-- The class in force of a stored class code; 3 is taken as PULSE (Table 11-2). -/
def classOf (code : Nat) : CoilClass :=
  match code with
  | 1 => .latch
  | 2 => .flipper
  | _ => .pulse

/-- Coil record c, in force (Table 11-2, R166, R78). -/
def coilRecord (img : List Byte) (c : Nat) : CoilSettings :=
  let o := 16 + 12 * c
  { cls := classOf (fieldAt img o 1 0)
    priority := fieldAt img o 3 2
    holdSource := byteAt img (o + 1)
    draw := clamp 1 63 (byteAt img (o + 2))
    kickTime := clamp 1 255 (byteAt img (o + 3))
    duty := clamp 1 16 (byteAt img (o + 4))
    holdLimit := byteAt img (o + 5)
    restTime := byteAt img (o + 6)
    waitLimit := clamp 1 255 (byteAt img (o + 7))
    heatRate := byteAt img (o + 8)
    shift := clamp 4 15 (byteAt img (o + 9))
    trip := max 256 (pairAt img (o + 10)) }

/-- Switch record n, in force (Table 11-2, R82). -/
def switchRecord (img : List Byte) (n : Nat) : SwitchSettings :=
  let o := 208 + 2 * n
  { closeDebounce := clamp 1 31 (byteAt img o)
    openDebounce := clamp 1 31 (fieldAt img (o + 1) 4 0)
    broadcast := bitAt img (o + 1) 6
    invert := bitAt img (o + 1) 7 }

/-- The initial state of a stored code; 3 is taken as OFF (R105). -/
def initialOf (code : Nat) : LampMode :=
  match code with
  | 1 => .lit
  | 2 => .flash
  | _ => .dark

/-- Lamp record n, in force (Table 11-2, R105). -/
def lampRecord (img : List Byte) (n : Nat) : LampSettings :=
  let o := 560 + 3 * n
  { incandescent := bitAt img o 0
    glow := fieldAt img o 2 1
    brightness := clamp 1 16 (byteAt img (o + 1))
    halfPeriod := clamp 1 255 (byteAt img (o + 2))
    initial := initialOf (fieldAt img o 5 4) }

/-- R22: the sum of the kick draws of the FLIPPER coils. -/
def flipperReserve (coils : Vector CoilSettings 16) : Nat :=
  (coils.toList.map fun c => if c.cls = .flipper then c.draw else 0).sum

/-- The coil records in force. -/
def imageCoils (img : List Byte) : Vector CoilSettings 16 := Vector.ofFn fun c => coilRecord img c.val

/-- Every setting in force of an image (Table 11-1, R166, R22). -/
def settingsOf (img : List Byte) : Settings :=
  { capacity := byteAt img 2
    headroom := min 63 (byteAt img 3)
    ceiling := byteAt img 4
    allowance := byteAt img 5
    reserve := flipperReserve (imageCoils img)
    beat := clamp 2 25 (byteAt img 6)
    quality := clamp 1 64 (byteAt img 7)
    vOn := byteAt img 8
    vSag := byteAt img 9
    statusMask := { notArmed := bitAt img 10 0, railNotUp := bitAt img 10 1, safe := bitAt img 10 2
                    lockout := bitAt img 10 3, fault := bitAt img 10 4, degraded := bitAt img 10 5 }
    causeMask := { short := bitAt img 11 0, stuck := bitAt img 11 1, opened := bitAt img 11 2
                   duplicate := bitAt img 11 3 }
    coils := imageCoils img
    switches := Vector.ofFn fun n => switchRecord img n.val
    lamps := Vector.ofFn fun n => lampRecord img n.val }

/-! ### Reflex records -/

/-- The edge field of a reflex record (Table 11-2). -/
def edgeSelectOf (code : Nat) : Option EdgeSelect :=
  match code with
  | 0 => some .close
  | 1 => some .opened
  | 2 => some .both
  | _ => none

/-- A lamp number, where a number is one. -/
def lampNumber (n : Nat) : Option LampNo := if h : n < 24 then some ⟨n, h⟩ else none

/-- A coil number, where a number is one and the coil is of class `k` (Table 6-2, target and class). -/
def coilOfClass (coils : Vector CoilSettings 16) (k : CoilClass) (n : Nat) : Option CoilNo :=
  if h : n < 16 then if coils[n].cls = k then some ⟨n, h⟩ else none else none

/-- The condition of a reflex record (Table 6-2, condition). -/
def conditionOf (code lamp : Nat) : Option Condition :=
  match code with
  | 0 => some .none
  | 1 => (lampNumber lamp).map .lampLit
  | 2 => (lampNumber lamp).map .lampUnlit
  | _ => none

/-- The action of a reflex record (Table 6-2: action kind, target, class, count). -/
def reflexActionOf (coils : Vector CoilSettings 16) (code target n : Nat) : Option ReflexAction :=
  match code with
  | 0 => if 1 ≤ n ∧ n ≤ 15 then (coilOfClass coils .pulse target).map fun c => .pulse c n else none
  | 1 => (coilOfClass coils .latch target).map .engage
  | 2 => (coilOfClass coils .latch target).map .release
  | 3 => (lampNumber target).map .lampOn
  | 4 => (lampNumber target).map .lampOff
  | 5 => (lampNumber target).map .lampToggle
  | 6 => if n ≤ 15 then (lampNumber target).map fun l => .lampFlash l n else none
  | _ => none

/-- The stored source station of reflex record k. -/
def reflexSource (img : List Byte) (k : Nat) : Nat := byteAt img (272 + 6 * k)

/-- R93, R94: reflex record k: an entry in use, or none (stored unused, or set aside). -/
def reflexRecord (img : List Byte) (coils : Vector CoilSettings 16) (k : Nat) : Option ReflexEntry :=
  let o := 272 + 6 * k
  let src := reflexSource img k
  if 1 ≤ src ∧ src ≤ 30 then
    match edgeSelectOf (fieldAt img (o + 1) 7 6), conditionOf (fieldAt img (o + 2) 7 6) (fieldAt img (o + 2) 4 0),
      reflexActionOf coils (byteAt img (o + 3)) (byteAt img (o + 4)) (byteAt img (o + 5)) with
    | some e, some c, some a =>
      some { source := src, switch := fieldAt img (o + 1) 4 0, edge := e, condition := c, action := a }
    | _, _, _ => none
  else none

/-- R93: an entry whose stored source is not 0 and which fails a check is set aside. -/
def reflexSetAside (img : List Byte) (coils : Vector CoilSettings 16) (k : Nat) : Bool :=
  decide (reflexSource img k ≠ 0) && (reflexRecord img coils k).isNone

/-- R92, R93: the reflex table of an image. -/
def reflexTableOf (img : List Byte) (coils : Vector CoilSettings 16) : ReflexTable :=
  { entries := Vector.ofFn fun k => reflexRecord img coils k.val
    setAside := ((List.finRange 48).filter fun k => reflexSetAside img coils k.val).length }

/-- R95: the distinct (source station, switch) pairs of the remote entries in use. -/
def remotePairs (own : Nat) (t : ReflexTable) : List (Nat × Nat) :=
  t.entries.toList.foldl (fun l slot => match slot with
    | none => l
    | some e => if e.source = own ∨ (e.source, e.switch) ∈ l then l else l ++ [(e.source, e.switch)]) []

/-! ### Acceptance checks -/

/-- Check 7 of Table 11-3. -/
def holdSourcesHold (coils : Vector CoilSettings 16) : Bool :=
  coils.toList.all fun c => decide (c.cls ≠ .flipper) || decide (c.holdSource ≤ 31)

/-- Check 8 of Table 11-3. -/
def coilDrawsHold (t : Settings) : Bool :=
  t.coils.toList.all fun c =>
    decide (c.cls = .flipper) || decide (c.draw ≤ min t.ceiling (t.capacity - t.headroom) - t.reserve)

/-- Table 11-3: the outcome of a pass, the first check that fails or ACCEPTED (R165). -/
def loadOutcome (img : List Byte) (strap : Nat) : LoadOutcome :=
  let t := settingsOf img
  if byteAt img 0 ≠ 0x41 then .format
  else if pairAt img 12 ≠ imageLength then .length
  else if pairAt img 632 ≠ (crc (img.take 632)).toNat then .check
  else if ¬(1 ≤ byteAt img 1 ∧ byteAt img 1 ≤ 30 ∧ byteAt img 1 = strap) then .station
  else if t.capacity < 8 then .capacity
  else if ¬(t.reserve + t.headroom ≤ t.capacity ∧ t.reserve ≤ t.ceiling) then .reserve
  else if holdSourcesHold t.coils = false then .holdSource
  else if coilDrawsHold t = false then .coilDraw
  else .accepted

end Sys2Proof.Machine
end

