-- ==== Sys2Proof/Machine/Switches.lean ====
section
/-! DEFINITION. The switch unit (chapter 5): judged levels, qualify timers, adoption, edges and their three
destinations, and the station clock. -/

namespace Sys2Proof.Machine

/-- The switches in order of number. -/
def allSwitches : List SwitchNo := List.finRange 32

/-- R87: the switch unit takes edges in LISTEN, ANNOUNCED, ARMED and DUPLICATE. -/
def takesEdges (l : LinkState) : Bool :=
  match l with
  | .offline => false
  | .held => false
  | _ => true

/-- R81: the judged level: closed when a low input meets a clear invert flag or a high input a set one. -/
def judgedClosed (cfg : SwitchSettings) (high : Bool) : Bool := high == cfg.invert

/-- R83, R85: a qualify timer started towards a level. -/
def newQualify (cfg : SwitchSettings) (closed : Bool) : Qualify :=
  { closed := closed
    timer := startTimer (ms (if closed then cfg.closeDebounce else cfg.openDebounce)) }

/-- The debounced level of a judged level. -/
def levelOf (closed : Bool) : SwitchLevel := if closed then .closed else .opened

/-- R83, R85: what a change of the judged level does to a switch's record.  UNSETTLED, the timer starts again
towards the new level; settled, it runs exactly while the input differs from the debounced level. -/
def SwitchRecord.inputChanged (r : SwitchRecord) (cfg : SwitchSettings) (closed : Bool) : SwitchRecord :=
  { r with qualify := if r.level = levelOf closed then none else some (newQualify cfg closed) }

/-- R81, R83, R85: the level at a switch pin changes. -/
def switchInput (sw : SwitchNo) (high : Bool) (s : State) : State :=
  if s.pins.switchHigh[sw] = high then s
  else
    let s := s.onPins fun p => { p with switchHigh := p.switchHigh.set sw high }
    if takesEdges s.link.state then
      let cfg := s.settings.switches[sw]
      s.onSwitches fun u =>
        { u with records := u.records.set sw (u.records[sw].inputChanged cfg (judgedClosed cfg high)) }
    else s

/-- The qualify timer has reached its target. -/
def qualifyReached (r : SwitchRecord) : Bool :=
  match r.qualify with
  | none => false
  | some q => q.timer.reached

/-- The level a record's qualify timer has timed. -/
def qualifyClosed (r : SwitchRecord) : Bool :=
  match r.qualify with
  | none => false
  | some q => q.closed

/-- An UNSETTLED switch has timed its first level (R85). -/
def adoptionDue (sw : SwitchNo) (s : State) : Bool :=
  takesEdges s.link.state && decide (s.switches.records[sw].level = .unsettled) &&
  qualifyReached s.switches.records[sw]

/-- R85: a switch record at adoption: settled at the level timed, the timer stopped, nothing else changed. -/
def SwitchRecord.adopted (r : SwitchRecord) : SwitchRecord :=
  { r with level := levelOf (qualifyClosed r), qualify := none }

/-- R85: the switch adopts the level it has timed, with no edge. -/
def adopt (sw : SwitchNo) (s : State) : State :=
  if adoptionDue sw s then
    s.onSwitches fun u => { u with records := u.records.set sw u.records[sw].adopted }
  else s

/-- A settled switch has timed its new level (R83, R86). -/
def edgeDue (sw : SwitchNo) (s : State) : Bool :=
  takesEdges s.link.state && decide (s.switches.records[sw].level ≠ .unsettled) &&
  qualifyReached s.switches.records[sw]

/-- R86: the switch record at an edge. -/
def SwitchRecord.edged (r : SwitchRecord) (cfg : SwitchSettings) (clock : Half) : SwitchRecord :=
  { level := levelOf (qualifyClosed r), qualify := none, edgeCount := r.edgeCount + 1, lastEdge := clock
    sequence := if cfg.broadcast then r.sequence + 1 else r.sequence }

/-- R89, R90: a broadcast edge in ANNOUNCED or ARMED appends a SWITCH frame, or drops it at 15 entries. -/
def appendSwitch (sw : SwitchNo) (k : EdgeKind) (s : State) : State :=
  if s.settings.switches[sw].broadcast ∧ (s.link.state = .announced ∨ s.link.state = .armed) then
    if s.bus.general.length < 15 then
      s.onBus fun b => { b with general := b.general ++ [.switch sw k s.switches.records[sw].sequence] }
    else raise .switchDrop (count .switchDrops s)
  else s

/-- R86, R88: the edge is taken, and handed to the FLIPPER channels, the bus interface and the reflex table. -/
def takeEdge (sw : SwitchNo) (s : State) : State :=
  let k : EdgeKind := if qualifyClosed s.switches.records[sw] then .close else .opened
  let s := s.onSwitches fun u =>
    { u with records := u.records.set sw (u.records[sw].edged s.settings.switches[sw] u.clock) }
  localEdge (ownNumber s) sw k (appendSwitch sw k (flipperEdge sw k s))

/-- A millisecond of the station clock has passed (R84). -/
def clockDue (s : State) : Bool := s.switches.clockTimer.reached

/-- R84: the station clock advances by 1, wrapping from 65535 to 0. -/
def clockTick (s : State) : State :=
  if clockDue s then
    s.onSwitches fun u => { u with clock := u.clock + 1, clockTimer := startTimer (ms 1) }
  else s

/-- STATION_CLOCK_TICK (R84). -/
def execStationClockTick (s : State) : Host.Outcome State Fault Refusal := .next (clockTick s)

/-- SWITCH_INPUT_CHANGE (R81, R83, R85). -/
def execSwitchInputChange (sw : SwitchNo) (high : Bool) (s : State) : Host.Outcome State Fault Refusal :=
  .next (switchInput sw high s)

/-- SWITCH_ADOPTION (R85). -/
def execSwitchAdoption (sw : SwitchNo) (s : State) : Host.Outcome State Fault Refusal := .next (adopt sw s)

/-- SWITCH_EDGE (R86, R88). -/
def execSwitchEdge (sw : SwitchNo) (s : State) : Host.Outcome State Fault Refusal :=
  .next (if edgeDue sw s then takeEdge sw s else s)

end Sys2Proof.Machine
end

