-- ==== Sys2Proof/Machine/StartUp.lean ====
section
/-! DEFINITION. Supply, resets, the power-up hold, the configuration loader, acceptance and rejection
(sections 11.1 and 11.2). -/

namespace Sys2Proof.Machine

/-! ### Resets (R162) -/

/-- Every block at its state after reset, with the retained store `r`.  What stands outside the part stays:
the levels on its input pins, and the commands that wait. -/
def resetTo (r : Retained) (s : State) : State :=
  { State.reset with pending := s.pending, pins := s.pins, retained := r, freeIndex := s.freeIndex }

/-- R162: a POWER_ON reset. -/
def resetPowerOn (s : State) : State := resetTo Retained.powerOn s

/-- R162: the retained store after a supply-dip reset that finds its mark valid. -/
def Retained.dipped (r : Retained) : Retained :=
  { r with dipCount := satInc r.dipCount, cause := if r.leftOffline then .supplyDip else .powerOn }

/-- R162: a supply dip; a reset that finds the validity mark lost is a POWER_ON reset. -/
def resetSupplyDip (s : State) : State :=
  if s.retained.valid then resetTo s.retained.dipped s else resetPowerOn s

/-- R162, R169: a service restart. -/
def resetService (s : State) : State :=
  if s.retained.valid then resetTo { s.retained with cause := .serviceRestart } s else resetPowerOn s

/-! ### Acceptance and rejection (R167) -/

/-- R79, Table 4-5: the accumulators at acceptance. -/
def heatAtAcceptance (t : Settings) (r : Retained) : Vector Nat 16 :=
  if r.cause = .powerOn then Vector.ofFn fun c => releaseLevel t.coils[c].trip else r.heat

/-- R69, R76, R79: the thermal unit at acceptance. -/
def thermalAtAcceptance (t : Settings) (heat : Vector Nat 16) : Thermal :=
  { levels := Vector.ofFn fun c => heatLevel t.coils[c].trip heat[c]
    interval := some (startTimer thermalPeriod)
    firstInterval := true }

/-- R85: every switch starts to time the level it has at acceptance. -/
def switchesAtAcceptance (t : Settings) (p : Pins) (u : SwitchUnit) : SwitchUnit :=
  let timed (n : SwitchNo) : Qualify := newQualify t.switches[n] (judgedClosed t.switches[n] p.switchHigh[n])
  { u with records := Vector.ofFn fun n => { u.records[n] with qualify := some (timed n) } }

/-- R60, R63: from acceptance a channel whose sense reads current starts its off-current timer (log entry 10). -/
def coilsAtAcceptance (p : Pins) (v : Vector CoilChannel 16) : Vector CoilChannel 16 :=
  Vector.ofFn fun c =>
    { v[c] with offTimer := if p.sense[c] = .none then none else some (startTimer stuckTime) }

/-- R95, R150: the remote edge memory built at acceptance. -/
def memoryOf (pairs : List (Nat × Nat)) : List EdgeRecord :=
  pairs.map fun p => { station := p.1, switch := p.2, last := none }

/-- R167: every block takes its settings. -/
def takeSettings (img : List Byte) (s : State) : State :=
  let t := settingsOf img
  let heat := heatAtAcceptance t s.retained
  let reflex := reflexTableOf img t.coils
  { s with
    settings := t
    retained := { s.retained with heat := heat, leftOffline := true }
    thermal := thermalAtAcceptance t heat
    switches := switchesAtAcceptance t s.pins s.switches
    coils := coilsAtAcceptance s.pins s.coils
    reflex := reflex
    link := { s.link with memory := memoryOf (remotePairs (ownNumber s) reflex), windowFrames := 0
                          windowBad := 0, degraded := false }
    startUp := { s.startUp with loader := .ended, outcome := some .accepted } }

/-- R116: the lamps take their initial states, in order of lamp number, and the lamp phase starts. -/
def startLamps (s : State) : State :=
  allLamps.foldl (fun s n => initialLamp n s)
    (s.onLamps fun u => { u with phase := some (startTimer lampPhasePeriod) })

/-- R138, R139: the link leaves OFFLINE for LISTEN. -/
def enterListen (s : State) : State :=
  noteLink <| s.onLink fun l =>
    { l with state := .listen, listenWindow := some (startTimer (cs (3 * s.settings.beat))) }

/-- R138: the link leaves OFFLINE for LISTEN, or DUPLICATE if a duplicate was seen; the mark is cleared. -/
def leaveOffline (s : State) : State :=
  let dup := s.link.duplicateSeen
  let s := s.onLink fun l => { l with duplicateSeen := false }
  if dup then enterDuplicate s else enterListen s

/-- R167, R138, R151: acceptance. -/
def acceptImage (img : List Byte) (s : State) : State :=
  judgeRail (leaveOffline (startLamps (takeSettings img s)))

/-- R167, R138, R143, R144, R56, R16: rejection; the link enters HELD. -/
def rejectImage (o : LoadOutcome) (s : State) : State :=
  let s := s.onStartUp fun u => { u with loader := .ended, outcome := some o }
  let s := s.onRetained fun r => { r with leftOffline := true }
  let s := s.onLink fun l => { l with state := .held, duplicateSeen := false }
  noteLink (flushQueue (endAllChannels s))

/-! ### The power-up hold and the loader (R163, R164, R165) -/

/-- The power-up hold has reached 40 ms. -/
def holdReached (s : State) : Bool := timerReached s.startUp.hold

/-- R163, R136, R161, R164: the end of the power-up hold. -/
def holdEnd (straps : BitVec 5) (s : State) : State :=
  if holdReached s then
    let s := s.onStartUp fun _ =>
      { hold := none, strapNumber := straps.toNat, loader := .reading 1, outcome := none }
    let s := s.onBus fun b => { b with started := true, byteLeft := 0, idle := 0, receiver := .between }
    s.onFaultLine fun f =>
      { f with watching := true, release := if s.pins.tfaultLow then none else some (startTimer releaseTime) }
  else s

/-- R164: a read error ends the attempt; the third rejects the load with READ_ERROR. -/
def readError (s : State) : State :=
  match s.startUp.loader with
  | .reading n =>
    if n < 3 then s.onStartUp fun u => { u with loader := .waiting n (startTimer retryWait) }
    else rejectImage .readError s
  | _ => s

/-- The wait after a failed attempt has reached 10 ms (R164). -/
def retryDue (s : State) : Bool :=
  match s.startUp.loader with
  | .waiting _ t => t.reached
  | _ => false

/-- R164: the loader reads again from byte 0. -/
def retryRead (s : State) : State :=
  match s.startUp.loader with
  | .waiting n t => if t.reached then s.onStartUp fun u => { u with loader := .reading (n + 1) } else s
  | _ => s

/-- R165: a pass of all 634 bytes has ended without a read error. -/
def passEnd (img : List Byte) (s : State) : State :=
  match s.startUp.loader with
  | .reading _ =>
    if img.length = imageLength then
      match loadOutcome img s.startUp.strapNumber with
      | .accepted => acceptImage img s
      | o => rejectImage o s
    else s
  | _ => s

/-- POWER_ON (R162). -/
def execPowerOn (s : State) : Host.Outcome State Fault Refusal := .next (resetPowerOn s)

/-- SUPPLY_DIP (R162). -/
def execSupplyDip (s : State) : Host.Outcome State Fault Refusal := .next (resetSupplyDip s)

/-- VALIDITY_MARK_LOST (R162). -/
def execValidityMarkLost (s : State) : Host.Outcome State Fault Refusal :=
  .next (s.onRetained fun r => { r with valid := false })

/-- POWER_UP_HOLD_END (R163). -/
def execPowerUpHoldEnd (straps : BitVec 5) (s : State) : Host.Outcome State Fault Refusal :=
  .next (holdEnd straps s)

/-- CONFIG_READ_ERROR (R164). -/
def execConfigReadError (s : State) : Host.Outcome State Fault Refusal := .next (readError s)

/-- CONFIG_RETRY_WAIT_EXPIRY (R164). -/
def execConfigRetryWaitExpiry (s : State) : Host.Outcome State Fault Refusal := .next (retryRead s)

/-- CONFIG_PASS_END (R165). -/
def execConfigPassEnd (img : List Byte) (s : State) : Host.Outcome State Fault Refusal :=
  .next (passEnd img s)

end Sys2Proof.Machine
end

