-- ==== Sys2Proof/Machine/Transmit.lean ====
section
/-! DEFINITION. The transmit side of the bus interface (sections 8.4 and 8.5): series, waits and back-off, the
composition of a frame at the start of an attempt, completion, failure and abandonment, and the beat timer. -/

namespace Sys2Proof.Machine

/-! ### Series and waits (R129, R130, R132) -/

/-- R127, R167: the draw slot is attempted in LISTEN, ANNOUNCED, ARMED and HELD. -/
def drawAttempted (l : LinkState) : Bool :=
  match l with
  | .offline => false
  | .duplicate => false
  | _ => true

/-- R129: the frame an idle transmitter takes: the pending draw slot, or else the head general entry. -/
def nextSeries (s : State) : Option SeriesKind :=
  if s.bus.drawPending && drawAttempted s.link.state then some .draw
  else match s.bus.general with
    | [] => none
    | .switch _ _ _ :: _ => some .switch
    | .reply _ :: _ => some .reply

/-- R129, R136, R167: the transmitter is idle and has a frame to send; it sends nothing in OFFLINE, or with own
number 0. -/
def seriesDue (s : State) : Bool :=
  s.bus.series.isNone && s.bus.wire.isNone && decide (s.link.state ≠ .offline) &&
  decide (ownNumber s ≠ 0) && (nextSeries s).isSome

/-- R129: a series starts, with k = 0. -/
def startSeries (s : State) : State :=
  if seriesDue s then
    s.onBus fun b =>
      { b with series := (nextSeries s).map fun kind => { kind := kind, failed := 0, cut := false } }
  else s

/-- R130: the priority wait, in bit times. -/
def priorityWait : SeriesKind → Nat
  | .draw => 0
  | .switch => 4
  | .reply => 8

/-- R132: the back-off slots of station `own` after the k-th failed attempt; 0 while k is 0. -/
def backOff (own k : Nat) : Nat := if k = 0 then 0 else (own * (2 * k + 1) + k) % 32

/-- R130: the wait W, in bit times. -/
def waitBits (own : Nat) (r : Series) : Nat := 12 + priorityWait r.kind + 16 * backOff own r.failed

/-- The line has been idle for W bit times (R130). -/
def waitOver (s : State) : Bool :=
  match s.bus.series with
  | none => false
  | some r =>
    s.bus.started && s.bus.wire.isNone && !r.cut && decide (s.bus.byteLeft = 0) &&
    decide (bits (waitBits (ownNumber s) r) ≤ s.bus.idle)

/-! ### Composition (R127, R121, R89, R169) -/

/-- R127, R128: the beat in force: the configured B, or 5 in HELD. -/
def beatInForce (s : State) : Nat := if s.link.state = .held then 5 else s.settings.beat

/-- Note 1 of Table 8-3: the flags of a DRAW frame. -/
def drawFlags (s : State) : Nat :=
  flagBit 0 (decide (s.faultLine.drive = .safe)) + flagBit 1 (decide (s.link.state = .held)) +
  flagBit 2 s.link.degraded + flagBit 3 (decide (s.rail.state = .up))

/-- R39, R41, R127: the DRAW frame of the state as it stands. -/
def drawFrameOf (s : State) : Frame :=
  let held : Bool := decide (s.link.state = .held)
  { src := ownNumber s, dst := 0, kind := 1
    payload := [byte (if held then 0 else reportedDraw s), byte (if held then 0 else s.settings.reserve),
      byte (if held then 0 else s.settings.ceiling), byte (beatInForce s), byte (linkCode s.link.state),
      byte (drawFlags s)] }

/-- R89, Table 8-4: the SWITCH frame of an entry. -/
def switchFrameOf (own : Nat) (sw : SwitchNo) (k : EdgeKind) (seq : BitVec 4) : Frame :=
  { src := own, dst := 0, kind := 2
    payload := [byte sw.val, byte (seq.toNat + flagBit 7 (decide (k = .close)))] }

/-- R131: the attempt begins with the start bit of byte 0.  The idle gap before it (R130) has ended whatever the
receiver had in hand (R122). -/
def beginAttempt (f : Frame) (s : State) : State :=
  s.onBus fun b =>
    { b with wire := some { frame := f, timer := startTimer (f.byteCount * byteTime), clashAt := none }
             idle := 0, receiver := .between }

/-- R36, R127, R128: an attempt of the draw slot: the re-test, the sample, the pending mark cleared. -/
def attemptDraw (s : State) : State :=
  let s := retest s
  (beginAttempt (drawFrameOf s) s).onBus fun b => { b with drawPending := false }

/-- R169, R170: an attempt of the SVC_REPLY: the reply is composed from the state as it stands. -/
def attemptReply (r : Reply) (s : State) : State := sampled r.data (beginAttempt (replyFrame r s) s)

/-- R130, R131: the attempt of the series in progress begins. -/
def beginSeriesAttempt (s : State) : State :=
  match s.bus.series, s.bus.general with
  | some r, g =>
    match r.kind, g with
    | .draw, _ => attemptDraw s
    | .switch, .switch sw k seq :: _ => beginAttempt (switchFrameOf (ownNumber s) sw k seq) s
    | .reply, .reply p :: _ => attemptReply p s
    | _, _ => s
  | none, _ => s

/-! ### The end of an attempt (R131, R133, R134, R135) -/

/-- The series ends, and the station leaves the line passive.  A byte of another station that is still on the line
holds up the count of idle bit times (R130). -/
def endSeries (s : State) : State :=
  s.onBus fun b => { b with series := none, wire := none, idle := 0 }

/-- Every byte has been read back as it was sent (R131): none of them was contended (R118). -/
def attemptDone (s : State) : Bool :=
  match s.bus.wire with
  | none => false
  | some w => w.timer.reached && w.clashAt.isNone

/-- A contended byte has reached its stop bit: it reads back wrongly, whatever was sent (R118, R131). -/
def clashDue (s : State) : Bool :=
  match s.bus.wire with
  | none => false
  | some w => match w.clashAt with
    | none => false
    | some e => decide (e ≤ w.timer.elapsed)

/-- An attempt stands at the stop bit of one of its bytes (R131). -/
def atStopBit (s : State) : Bool :=
  match s.bus.wire with
  | none => false
  | some w => decide (0 < w.timer.elapsed) && decide (w.timer.elapsed % byteTime = 0)

/-- R133, R139, R141, Table 9-3: the link unit at the completion of a DRAW.  In ANNOUNCED and ARMED it clears the
abandon count; in LISTEN with its window over it enters ANNOUNCED; elsewhere it does nothing. -/
def linkDrawCompleted (s : State) : State :=
  if s.link.state = .announced ∨ s.link.state = .armed then s.onLink fun l => { l with abandonCount := 0 }
  else if s.link.state = .listen ∧ s.link.listenWindow = none then enterAnnounced s
  else s

/-- R128: the beat timer starts from 0. -/
def startBeat (s : State) : State :=
  s.onBus fun b => { b with beatTimer := some (startTimer (cs (beatInForce s))) }

/-- R133: the completion of a DRAW. -/
def completeDraw (f : Frame) (s : State) : State :=
  startBeat (linkDrawCompleted (drawCompleted (byteAt f.payload 0) s))

/-- R133: the completion of a SWITCH; an entry that R135 has discarded has already left. -/
def completeSwitch (cut : Bool) (s : State) : State :=
  if cut then s else s.onBus fun b => { b with general := b.general.tail }

/-- R169, R170: what the completion of a reply does in the service unit. -/
def replyCompleted (f : Frame) (r : Reply) (s : State) : State :=
  let s := if r.data = .events then eventsReported (BitVec.ofNat 16 (pairAt f.payload 2)) s else s
  if r.restart then resetService s else s

/-- R133: the completion of an SVC_REPLY: the entry leaves. -/
def completeReply (f : Frame) (s : State) : State :=
  let s' := s.onBus fun b => { b with general := b.general.filter fun g => !isReply g }
  match s.bus.general.find? isReply with
  | some (.reply r) => replyCompleted f r s'
  | _ => s'

/-- R131, R133: the attempt succeeds. -/
def attemptSucceeds (s : State) : State :=
  match s.bus.series, s.bus.wire with
  | some r, some w =>
    let s := heard (endSeries s)
    match r.kind with
    | .draw => completeDraw w.frame s
    | .switch => completeSwitch r.cut s
    | .reply => completeReply w.frame s
  | _, _ => s

/-- R134, R37, R141: the abandonment of a DRAW. -/
def abandonDraw (s : State) : State :=
  let s := withdraw (markDraw s)
  if s.link.state = .announced ∨ s.link.state = .armed then
    s.onLink fun l => { l with abandonCount := min 3 (l.abandonCount + 1) }
  else s

/-- R134: the 8th attempt of a series has failed. -/
def abandon (r : Series) (s : State) : State :=
  let s := raise .txAbandon (count .abandoned (endSeries s))
  match r.kind with
  | .draw => abandonDraw s
  | .switch => s.onBus fun b => { b with general := b.general.tail }
  | .reply => s.onBus fun b => { b with general := b.general.filter fun g => !isReply g }

/-- R131, R135: a byte reads back wrongly.  A series that R135 has cut ends; k becomes 8 and the frame is
abandoned; or the series goes on with its back-off. -/
def attemptFails (s : State) : State :=
  match s.bus.series with
  | none => s
  | some r =>
    if r.cut then endSeries s
    else if 7 ≤ r.failed then abandon r s
    else (endSeries s).onBus fun b => { b with series := some { r with failed := r.failed + 1 } }

/-- The failed attempt is the 8th of a series that has not been cut (R134). -/
def lastAttempt (s : State) : Bool :=
  match s.bus.series with
  | none => false
  | some r => !r.cut && decide (7 ≤ r.failed)

/-- The beat timer has reached B × 10 ms (R128). -/
def beatDue (s : State) : Bool := timerReached s.bus.beatTimer

/-- R128: the beat expires. -/
def beatExpired (s : State) : State :=
  if beatDue s then markDraw (s.onBus fun b => { b with beatTimer := none }) else s

/-- TX_SERIES_START (R129). -/
def execTxSeriesStart (s : State) : Host.Outcome State Fault Refusal := .next (startSeries s)

/-- TX_WAIT_EXPIRY (R130).  A fragment that this idle gap ends is counted first. -/
def execTxWaitExpiry (s : State) : Host.Outcome State Fault Refusal :=
  .next (if waitOver s then beginSeriesAttempt (endFragment s) else s)

/-- TX_ATTEMPT_SUCCESS (R131, R133). -/
def execTxAttemptSuccess (s : State) : Host.Outcome State Fault Refusal :=
  .next (if attemptDone s then attemptSucceeds s else s)

/-- TX_ATTEMPT_FAILURE (R131). -/
def execTxAttemptFailure (s : State) : Host.Outcome State Fault Refusal :=
  .next (if atStopBit s then attemptFails s else s)

/-- TX_ABANDON (R134). -/
def execTxAbandon (s : State) : Host.Outcome State Fault Refusal :=
  .next (if atStopBit s && lastAttempt s then attemptFails s else s)

/-- BEAT_TIMER_EXPIRY (R128). -/
def execBeatTimerExpiry (s : State) : Host.Outcome State Fault Refusal := .next (beatExpired s)

end Sys2Proof.Machine
end

