-- ==== Sys2Proof/Machine/Time.lean ====
section
/-! DEFINITION. Time (scope 3.4, log entry 2): which of the station's own events have fallen due, and what the
passing of one quantum does to every timer. -/

namespace Sys2Proof.Machine

/-! ### The station's own events -/

/-- The events of the station itself that have fallen due; a row that needs something from outside is never
due by itself.  FAULT_LINE_ASSERTED is due while the station drives a line that reads released: a cause that is
latched and cleared before that event is taken brings no SAFE (log entry 27).  TX_ATTEMPT_FAILURE is due at the stop
bit of a contended byte (R118). -/
def isDue (i : Instr) (s : State) : Bool :=
  match i with
  | .configRetryWaitExpiry => retryDue s
  | .stationClockTick => clockDue s
  | .switchAdoption sw => adoptionDue sw s
  | .switchEdge sw => edgeDue sw s
  | .scan => s.sched.scanDue
  | .announceTimerExpiry => announceDue s
  | .waitLimitExpiry c => waitDue c s
  | .kickTimerExpiry c => kickDue c s
  | .holdLimitExpiry c => holdDue c s
  | .restTimerExpiry c => restDue c s
  | .kickOpenCheck c => openCheckDue c s
  | .offCurrentTimerExpiry c => offCurrentDue c s
  | .thermalIntervalExpiry => thermalDue s
  | .lampHalfExpiry n => halfDue n s
  | .lampPhaseExpiry => lampPhaseDue s
  | .warmUpExpiry n => warmUpDue n s
  | .settleTimerExpiry => settleDue s
  | .sagQualifyExpiry => sagQualifyDue s
  | .sagClearExpiry => sagClearDue s
  | .faultLineAsserted => assertsLine s.faultLine && !s.pins.tfaultLow
  | .releaseSettleExpiry => releaseDue s
  | .fragment => fragmentDue s
  | .txSeriesStart => seriesDue s
  | .txWaitExpiry => waitOver s
  | .beatTimerExpiry => beatDue s
  | .listenWindowExpiry => listenWindowDue s
  | .announcedTimerExpiry => announcedDue s
  | .linkLost => linkLossDue s
  | .txAttemptFailure => clashDue s
  | .peerStaleExpiry n => staleDue n s
  | .peerRemovalExpiry n => removalDue n s
  | .qualityWindowEnd => windowDue s
  | .powerOn => false
  | .supplyDip => false
  | .powerUpHoldEnd _ => false
  | .configReadError => false
  | .configPassEnd _ => false
  | .switchInputChange _ _ => false
  | .senseReadingChange _ _ => false
  | .railReadingChange _ => false
  | .faultLineReleased => false
  | .badFrame _ => false
  | .filteredFrame _ => false
  | .ownNumberFrame _ => false
  | .drawFrame _ => false
  | .switchFrame _ => false
  | .fireFrame _ => false
  | .lampFrame _ => false
  | .status _ => false
  | .readEvents _ => false
  | .readCounters _ => false
  | .readPeer _ => false
  | .readCoil _ => false
  | .readSwitch _ => false
  | .testPulse _ => false
  | .setLamp _ => false
  | .clearFault _ => false
  | .restart _ => false
  | .svcUnknownRequest _ => false
  | .txAttemptSuccess => false
  | .txAbandon => false
  | .validityMarkLost => false
  | .startBitOnLine => false

/-- The station's own events, in the order in which those that fall together are taken when no command says
otherwise (log entry 2). -/
def ownEvents (s : State) : List Instr :=
  [ [.faultLineAsserted, .txAttemptFailure, .scan, .configRetryWaitExpiry, .stationClockTick, .fragment,
       .qualityWindowEnd, .linkLost],
    allSwitches.map .switchAdoption, allSwitches.map .switchEdge,
    allCoils.map .kickOpenCheck, allCoils.map .kickTimerExpiry, allCoils.map .holdLimitExpiry,
    allCoils.map .restTimerExpiry, allCoils.map .offCurrentTimerExpiry, allCoils.map .waitLimitExpiry,
    [.announceTimerExpiry, .thermalIntervalExpiry, .lampPhaseExpiry],
    allLamps.map .lampHalfExpiry, allLamps.map .warmUpExpiry,
    [.settleTimerExpiry, .sagQualifyExpiry, .sagClearExpiry, .releaseSettleExpiry],
    s.link.peers.map fun p => .peerRemovalExpiry p.station,
    s.link.peers.map fun p => .peerStaleExpiry p.station,
    [.beatTimerExpiry, .listenWindowExpiry, .announcedTimerExpiry, .txSeriesStart, .txWaitExpiry] ].flatten

/-- The first of the station's own events that has fallen due. -/
def firstDue (s : State) : Option Instr := (ownEvents s).find? fun i => isDue i s

/-! ### One quantum passes -/

/-- The idle count needs to be followed no further than the longest W: 12 + 8 + 16 × 31 bit times (R130, R132). -/
def idleCap : Nat := bits 516

/-- R45, R61, R63: a channel's timers run, current sensed during a kick is seen, and the PWM period goes on; a
change of duty takes effect from the next period.  DESIGN CHOICE (log entry 31): a period begins before the events of
its moment are taken, so a duty that one of them changes waits for the period after it. -/
def CoilChannel.elapse (ch : CoilChannel) (sense : Sense) : CoilChannel :=
  { ch with
    kickTimer := advanceTimer ch.kickTimer
    holdTimer := advanceTimer ch.holdTimer
    restTimer := advanceTimer ch.restTimer
    offTimer := advanceTimer ch.offTimer
    currentSeen := ch.currentSeen || (decide (ch.state = .kick) && decide (sense ≠ .none))
    pwmPhase := if ch.state = .hold then (ch.pwmPhase + 1) % pwmPeriod else ch.pwmPhase
    driven := if ch.state = .hold ∧ pwmPeriod ≤ ch.pwmPhase + 1 then ch.duty.getD 0 else ch.driven }

/-- R12: a wait timer counts while the entry's channel is in any state other than KICK or REST. -/
def Entry.elapse (coils : Vector CoilChannel 16) (e : Entry) : Entry :=
  if coils[e.coil].state = .kick ∨ coils[e.coil].state = .rest then e else { e with wait := e.wait.advance }

/-- R35: the announce timer. -/
def Announce.elapse (a : Announce) : Announce := { a with timer := a.timer.advance }

/-- R83, R85: a qualify timer. -/
def SwitchRecord.elapse (r : SwitchRecord) : SwitchRecord :=
  { r with qualify := r.qualify.map fun q => { q with timer := q.timer.advance } }

/-- R107, R108, R112: a lamp's timers; its duty is taken anew when a PWM period begins (the tie with an event of that
moment: log entry 31). -/
def LampChannel.elapse (ch : LampChannel) (newPeriod : Bool) (duty : Nat) : LampChannel :=
  { ch with
    flash := ch.flash.map fun f => { f with timer := f.timer.advance }
    warmUp := advanceTimer ch.warmUp
    driven := if newPeriod then duty else ch.driven }

/-- The lamp unit (R107, R108, R112, R115).  DESIGN CHOICE (log entry 31): a PWM period takes the duty of the stage that
stands as it begins, before the events of that moment, so a stage that one of them changes acts from the next
period, 1 ms later. -/
def elapseLamps (s : State) : LampUnit :=
  let wrap : Bool := decide (pwmPeriod ≤ s.lamps.pwmPhase + 1)
  { s.lamps with
    lamps := Vector.ofFn fun n =>
      s.lamps.lamps[n].elapse wrap (lampDuty s.link.state s.settings.lamps[n] s.lamps.lamps[n].stage)
    phase := advanceTimer s.lamps.phase
    pwmPhase := (s.lamps.pwmPhase + 1) % pwmPeriod }

/-- The link unit (Table 9-3, R146). -/
def LinkUnit.elapse (l : LinkUnit) : LinkUnit :=
  { l with
    listenWindow := advanceTimer l.listenWindow
    announcedTimer := advanceTimer l.announcedTimer
    silence := advanceTimer l.silence
    peers := l.peers.map fun p => { p with silence := p.silence.advance } }

/-- The bus interface: the attempt on the wire, the beat, and the line as the receiver counts it (R118, R130). -/
def Bus.elapse (b : Bus) : Bus :=
  { b with
    wire := b.wire.map fun w => { w with timer := w.timer.advance }
    beatTimer := advanceTimer b.beatTimer
    byteLeft := b.byteLeft - 1
    idle := if b.started && b.wire.isNone && decide (b.byteLeft = 0) then min (b.idle + 1) idleCap else b.idle }

/-- The loader's retry wait (R164). -/
def Loader.elapse : Loader → Loader
  | .waiting n t => .waiting n t.advance
  | .holding => .holding
  | .reading n => .reading n
  | .ended => .ended

/-- One quantum of time passes. -/
def elapse (s : State) : State :=
  { s with
    startUp := { s.startUp with hold := advanceTimer s.startUp.hold, loader := s.startUp.loader.elapse }
    link := s.link.elapse
    sched := { s.sched with queue := s.sched.queue.map (Entry.elapse s.coils)
                            announce := s.sched.announce.map Announce.elapse }
    coils := Vector.ofFn fun c => s.coils[c].elapse s.pins.sense[c]
    thermal := { s.thermal with interval := advanceTimer s.thermal.interval }
    switches := { s.switches with records := Vector.ofFn fun n => s.switches.records[n].elapse
                                  clockTimer := s.switches.clockTimer.advance }
    lamps := elapseLamps s
    bus := s.bus.elapse
    rail := { s.rail with settle := advanceTimer s.rail.settle, sagQualify := advanceTimer s.rail.sagQualify
                          sagClear := advanceTimer s.rail.sagClear }
    faultLine := { s.faultLine with release := advanceTimer s.faultLine.release } }

end Sys2Proof.Machine
end

