-- ==== Sys2Proof/Machine/Dispatch.lean ====
section
/-! DEFINITION. One arm for each row of spec/opcode_table.json, in the table's order. -/

namespace Sys2Proof.Machine

def exec (i : Instr) (s : State) : Host.Outcome State Fault Refusal :=
  match i with
  | .powerOn => Sys2Proof.Machine.execPowerOn s
  | .supplyDip => Sys2Proof.Machine.execSupplyDip s
  | .powerUpHoldEnd straps => Sys2Proof.Machine.execPowerUpHoldEnd straps s
  | .configReadError => Sys2Proof.Machine.execConfigReadError s
  | .configRetryWaitExpiry => Sys2Proof.Machine.execConfigRetryWaitExpiry s
  | .configPassEnd image => Sys2Proof.Machine.execConfigPassEnd image s
  | .stationClockTick => Sys2Proof.Machine.execStationClockTick s
  | .switchInputChange sw high => Sys2Proof.Machine.execSwitchInputChange sw high s
  | .switchAdoption sw => Sys2Proof.Machine.execSwitchAdoption sw s
  | .switchEdge sw => Sys2Proof.Machine.execSwitchEdge sw s
  | .scan => Sys2Proof.Machine.execScan s
  | .announceTimerExpiry => Sys2Proof.Machine.execAnnounceTimerExpiry s
  | .waitLimitExpiry coil => Sys2Proof.Machine.execWaitLimitExpiry coil s
  | .kickTimerExpiry coil => Sys2Proof.Machine.execKickTimerExpiry coil s
  | .holdLimitExpiry coil => Sys2Proof.Machine.execHoldLimitExpiry coil s
  | .restTimerExpiry coil => Sys2Proof.Machine.execRestTimerExpiry coil s
  | .kickOpenCheck coil => Sys2Proof.Machine.execKickOpenCheck coil s
  | .senseReadingChange coil reading => Sys2Proof.Machine.execSenseReadingChange coil reading s
  | .offCurrentTimerExpiry coil => Sys2Proof.Machine.execOffCurrentTimerExpiry coil s
  | .thermalIntervalExpiry => Sys2Proof.Machine.execThermalIntervalExpiry s
  | .lampHalfExpiry lamp => Sys2Proof.Machine.execLampHalfExpiry lamp s
  | .lampPhaseExpiry => Sys2Proof.Machine.execLampPhaseExpiry s
  | .warmUpExpiry lamp => Sys2Proof.Machine.execWarmUpExpiry lamp s
  | .railReadingChange reading => Sys2Proof.Machine.execRailReadingChange reading s
  | .settleTimerExpiry => Sys2Proof.Machine.execSettleTimerExpiry s
  | .sagQualifyExpiry => Sys2Proof.Machine.execSagQualifyExpiry s
  | .sagClearExpiry => Sys2Proof.Machine.execSagClearExpiry s
  | .faultLineAsserted => Sys2Proof.Machine.execFaultLineAsserted s
  | .faultLineReleased => Sys2Proof.Machine.execFaultLineReleased s
  | .releaseSettleExpiry => Sys2Proof.Machine.execReleaseSettleExpiry s
  | .badFrame rx => Sys2Proof.Machine.execBadFrame rx s
  | .fragment => Sys2Proof.Machine.execFragment s
  | .filteredFrame rx => Sys2Proof.Machine.execFilteredFrame rx s
  | .ownNumberFrame rx => Sys2Proof.Machine.execOwnNumberFrame rx s
  | .drawFrame rx => Sys2Proof.Machine.execDrawFrame rx s
  | .switchFrame rx => Sys2Proof.Machine.execSwitchFrame rx s
  | .fireFrame rx => Sys2Proof.Machine.execFireFrame rx s
  | .lampFrame rx => Sys2Proof.Machine.execLampFrame rx s
  | .status rx => Sys2Proof.Machine.execStatus rx s
  | .readEvents rx => Sys2Proof.Machine.execReadEvents rx s
  | .readCounters rx => Sys2Proof.Machine.execReadCounters rx s
  | .readPeer rx => Sys2Proof.Machine.execReadPeer rx s
  | .readCoil rx => Sys2Proof.Machine.execReadCoil rx s
  | .readSwitch rx => Sys2Proof.Machine.execReadSwitch rx s
  | .testPulse rx => Sys2Proof.Machine.execTestPulse rx s
  | .setLamp rx => Sys2Proof.Machine.execSetLamp rx s
  | .clearFault rx => Sys2Proof.Machine.execClearFault rx s
  | .restart rx => Sys2Proof.Machine.execRestart rx s
  | .svcUnknownRequest rx => Sys2Proof.Machine.execSvcUnknownRequest rx s
  | .txSeriesStart => Sys2Proof.Machine.execTxSeriesStart s
  | .txWaitExpiry => Sys2Proof.Machine.execTxWaitExpiry s
  | .txAttemptSuccess => Sys2Proof.Machine.execTxAttemptSuccess s
  | .txAttemptFailure => Sys2Proof.Machine.execTxAttemptFailure s
  | .txAbandon => Sys2Proof.Machine.execTxAbandon s
  | .beatTimerExpiry => Sys2Proof.Machine.execBeatTimerExpiry s
  | .listenWindowExpiry => Sys2Proof.Machine.execListenWindowExpiry s
  | .announcedTimerExpiry => Sys2Proof.Machine.execAnnouncedTimerExpiry s
  | .linkLost => Sys2Proof.Machine.execLinkLost s
  | .peerStaleExpiry station => Sys2Proof.Machine.execPeerStaleExpiry station s
  | .peerRemovalExpiry station => Sys2Proof.Machine.execPeerRemovalExpiry station s
  | .qualityWindowEnd => Sys2Proof.Machine.execQualityWindowEnd s
  | .validityMarkLost => Sys2Proof.Machine.execValidityMarkLost s
  | .startBitOnLine => Sys2Proof.Machine.execStartBitOnLine s

end Sys2Proof.Machine
end

