-- ==== Sys2Proof/Machine/Step.lean ====
section
/-! DEFINITION. One step of the station: the command at the front of the queue; on an empty queue, the station's
own first event that has fallen due, or else the passing of one quantum of time (log entry 2). -/

namespace Sys2Proof.Machine

/-- A step on an empty queue. -/
def idleStep (s : State) : Host.Outcome State Fault Refusal :=
  match firstDue s with
  | some i => exec i s
  | none => .next (elapse s)

/-- One step. -/
def step (s : State) : Host.Outcome State Fault Refusal :=
  match s.pending with
  | c :: rest => exec c (s.withPending rest)
  | [] => idleStep s

/-- The state with the command that a word spells at the front of the queue; no word spells one. -/
def State.withFetchWord (s : State) (nbits w : Nat) : State :=
  match decodeTableWord nbits w with
  | none => s
  | some i => s.withPending (i :: s.pending)

end Sys2Proof.Machine
end

