-- ==== Sys2Proof/Safety.lean ====
section
/-! DEFINITION. What the spec says of every state of the station: the invariants that the claims are about.  Each is
a decidable statement about one state. -/

namespace Sys2Proof.Machine

/-- The link is OFFLINE or HELD: no configuration is in force. -/
abbrev Unconfigured (s : State) : Prop := s.link.state = .offline ∨ s.link.state = .held

/-- The configuration loads only while the link is OFFLINE, and not before the power-up hold ends (R138, R163,
R164). -/
abbrev LoadsOffline (s : State) : Prop :=
  (s.startUp.hold ≠ none → s.startUp.loader = .holding) ∧ (s.startUp.loader ≠ .ended → s.link.state = .offline)

/-! ### Coil outputs (R56, R60) -/

/-- A channel whose drive is under way: KICK, HOLD or REST. -/
def running (st : CoilState) : Bool := commandedOn st || decide (st = .rest)

/-- The causes that R56 and R60 name for holding every coil output off. -/
abbrev HeldOff (s : State) : Prop :=
  s.faultLine.drive = .safe ∨ s.rail.state = .down ∨ s.rail.state = .settling ∨ Unconfigured s

/-- R56: while such a cause lasts, no channel is in KICK, HOLD or REST.  With no configuration in force the rail is
DOWN (R151). -/
abbrev OutputsHeldOff (s : State) : Prop :=
  (HeldOff s → ∀ c : CoilNo, running s.coils[c].state = false) ∧
  (Unconfigured s → s.rail.state = .down) ∧ LoadsOffline s

/-! ### The channel records (Table 3-1, R66) -/

/-- Table 3-1: what is present in which channel state. -/
abbrev CoilChannel.Coherent (ch : CoilChannel) : Prop :=
  (ch.faultKind ≠ none ↔ ch.state = .fault) ∧ (ch.kickTimer ≠ none ↔ ch.state = .kick) ∧
  (ch.restTimer ≠ none ↔ ch.state = .rest) ∧ (ch.duty ≠ none ↔ ch.state = .hold) ∧
  (ch.holdTimer ≠ none → ch.state = .hold) ∧ (ch.offTimer ≠ none → commandedOn ch.state = false)

/-- Every channel record is coherent, and no FLIPPER channel is in LOCKOUT (R59, R77); while no configuration is in
force every channel is IDLE (R66). -/
abbrev ChannelsCoherent (s : State) : Prop :=
  (∀ c : CoilNo, s.coils[c].Coherent) ∧
  (∀ c : CoilNo, s.settings.coils[c].cls = .flipper → s.coils[c].state ≠ .lockout) ∧
  (Unconfigured s → ∀ c : CoilNo, s.coils[c].state = .idle) ∧ LoadsOffline s

/-! ### The rail budget (R23, R24) -/

/-- The draw of the PULSE and LATCH channels in KICK and HOLD (R23). -/
def drawSum (s : State) : Nat := (allCoils.map fun c => drawOf s.settings.coils[c] s.coils[c]).sum

/-- R23: D_own equals the sum over the channels; while no configuration is in force every channel is IDLE. -/
abbrev DrawMatches (s : State) : Prop :=
  s.sched.committed = drawSum s ∧ (Unconfigured s → ∀ c : CoilNo, s.coils[c].state = .idle) ∧ LoadsOffline s

/-- min(M_own, C − H) (R24). -/
def budget (s : State) : Nat := min s.settings.ceiling (s.settings.capacity - s.settings.headroom)

/-- The draw that a completion of the announce may still add: d_a once the carried mark is set (R36, R40). -/
def carriedDraw (s : State) : Nat :=
  match s.sched.announce with
  | none => 0
  | some a => if a.carried then a.draw else 0

/-- R34: an entry is ANNOUNCING only while the link is ARMED and the rail is UP, with d_a the kick draw of its coil. -/
abbrev AnnounceStands (s : State) : Prop :=
  ∀ a ∈ s.sched.announce, s.link.state = .armed ∧ s.rail.state = .up ∧ a.draw = s.settings.coils[a.coil].draw

/-- R24: D_own + R_own, with the draw a completion may still add, is within min(M_own, C − H); hold duties are at most
16 (Table 3-2) and M_own is one byte (Table 11-1). -/
abbrev WithinBudget (s : State) : Prop :=
  DrawMatches s ∧ AnnounceStands s ∧ (∀ c : CoilNo, s.settings.coils[c].duty ≤ 16) ∧ s.settings.ceiling ≤ 255 ∧
  s.sched.committed + s.settings.reserve + carriedDraw s ≤ budget s

/-! ### The fire queue (R5, R6, R34) -/

/-- A reflex entry asks for 1–15 pulses (R93, R94). -/
def ReflexEntry.countHolds (e : ReflexEntry) : Bool :=
  match e.action with
  | .pulse _ n => decide (1 ≤ n) && decide (n ≤ 15)
  | _ => true

/-- R5, R6, R34: at most 12 entries, one to a coil, none for a FLIPPER, 1–15 pulses each, in order of priority; an
entry is ANNOUNCING exactly when the announce record names its coil.  No entry while the link is OFFLINE (R20). -/
abbrev QueueHolds (s : State) : Prop :=
  s.sched.queue.length ≤ 12 ∧
  s.sched.queue.Pairwise (fun x y => x.coil ≠ y.coil ∧
    s.settings.coils[x.coil].priority ≤ s.settings.coils[y.coil].priority) ∧
  (∀ e ∈ s.sched.queue, s.settings.coils[e.coil].cls ≠ .flipper ∧ 1 ≤ e.pulses ∧ e.pulses ≤ 15 ∧
    (e.phase = .announcing ↔ s.sched.announce.map Announce.coil = some e.coil)) ∧
  (∀ a ∈ s.sched.announce, ∃ e ∈ s.sched.queue, e.coil = a.coil) ∧
  (∀ slot ∈ s.reflex.entries.toList, ∀ e ∈ slot, e.countHolds = true) ∧
  (s.link.state = .offline → s.sched.queue = [] ∧ s.sched.announce = none) ∧ LoadsOffline s

/-! ### Switches (R83, R85, R87) -/

/-- R83, R85, R87: a settled switch times its input exactly while the judged level differs from the debounced level;
an UNSETTLED switch times the judged level; with no configuration in force every switch is UNSETTLED and times
nothing. -/
abbrev SwitchFollows (cfg : SwitchSettings) (high runs : Bool) (r : SwitchRecord) : Prop :=
  if runs then
    if r.level = levelOf (judgedClosed cfg high) then r.qualify = none
    else r.qualify.map Qualify.closed = some (judgedClosed cfg high)
  else r.level = .unsettled ∧ r.qualify = none

/-- Every switch follows its input. -/
abbrev SwitchesFollow (s : State) : Prop :=
  (∀ n : SwitchNo, SwitchFollows s.settings.switches[n] s.pins.switchHigh[n] (takesEdges s.link.state)
    s.switches.records[n]) ∧ LoadsOffline s

/-! ### Lamps (R109, R110, R112, R115) -/

/-- R109, R110, R112: the lamp start queue holds each lamp at most once, incandescent lamps alone, and exactly those
that are WAITING; with no configuration in force the queue is empty and every lamp is OFF and DARK (R115, R116). -/
abbrev LampsHold (s : State) : Prop :=
  s.lamps.queue.Nodup ∧
  (∀ n : LampNo, s.lamps.lamps[n].stage = .waiting ↔ n ∈ s.lamps.queue) ∧
  (∀ n ∈ s.lamps.queue, s.settings.lamps[n].incandescent = true) ∧
  (Unconfigured s → s.lamps.queue = [] ∧ ∀ n : LampNo, s.lamps.lamps[n].mode = .dark ∧
    s.lamps.lamps[n].flash = none ∧ s.lamps.lamps[n].stage = .dark) ∧ LoadsOffline s

/-! ### The bus and the link (R126, R145) -/

/-- R126: at most 15 general entries, at most one of them an SVC_REPLY. -/
abbrev TransmitHolds (s : State) : Prop :=
  s.bus.general.length ≤ 15 ∧ (s.bus.general.filter isReply).length ≤ 1

/-- R145, R147, R143: the peer table is in order of station number, one entry to a station, none for the own number
or for station 31; it is empty while the link is OFFLINE or HELD. -/
abbrev PeersHold (s : State) : Prop :=
  s.link.peers.Pairwise (fun p q => p.station < q.station) ∧
  (∀ p ∈ s.link.peers, 1 ≤ p.station ∧ p.station ≤ 30 ∧ p.station ≠ ownNumber s) ∧
  (Unconfigured s → s.link.peers = []) ∧ LoadsOffline s

/-! ### Accumulators and counters (R68, R171) -/

/-- R68: every heat accumulator is within 0–65535. -/
abbrev HeatInRange (s : State) : Prop := ∀ c : CoilNo, s.retained.heat[c] ≤ 65535

/-- R171, R162: every counter, and the dip count, is within 0–65535. -/
abbrev CountersInRange (s : State) : Prop :=
  (∀ n : Fin 15, s.service.counters[n] ≤ 65535) ∧ s.retained.dipCount ≤ 65535

/-! ### How the claims speak of one step -/

/-- The outcome is a next state, of which `P` holds. -/
def Yields (o : Host.Outcome State Fault Refusal) (P : State → Prop) : Prop := ∃ t, o = .next t ∧ P t

/-- The blocks of the state, and the count of free values. -/
inductive Block where
  | pins | retained | startUp | settings | link | sched | coils | thermal | switches | reflex | lamps | bus
  | rail | faultLine | service | freeIndex
  deriving DecidableEq, Repr

/-- A block is the same in two states. -/
def Block.same (s t : State) : Block → Prop
  | .pins => t.pins = s.pins
  | .retained => t.retained = s.retained
  | .startUp => t.startUp = s.startUp
  | .settings => t.settings = s.settings
  | .link => t.link = s.link
  | .sched => t.sched = s.sched
  | .coils => t.coils = s.coils
  | .thermal => t.thermal = s.thermal
  | .switches => t.switches = s.switches
  | .reflex => t.reflex = s.reflex
  | .lamps => t.lamps = s.lamps
  | .bus => t.bus = s.bus
  | .rail => t.rail = s.rail
  | .faultLine => t.faultLine = s.faultLine
  | .service => t.service = s.service
  | .freeIndex => t.freeIndex = s.freeIndex

/-- Everything but the blocks of `changed` is the same: the frame of a step. -/
def Framed (changed : List Block) (s t : State) : Prop :=
  t.pending = s.pending ∧ ∀ b, b ∉ changed → b.same s t

/-- The bus after something that sets the pending mark of the draw slot if `on` (R127, R128). -/
def markedIf (on : Bool) (s : State) : Bus :=
  { s.bus with drawPending := s.bus.drawPending || (on && mayMark s) }

/-- The scheduler after D_own has become `n` (R23, R29). -/
def Scheduler.withCommitted (q : Scheduler) (n : Nat) : Scheduler :=
  { q with committed := n, scanDue := q.scanDue || decide (n ≠ q.committed) }

/-- The fifteen counters with one of them one higher, saturating (R171). -/
def counted (i : Fin 15) (v : Vector Nat 15) : Vector Nat 15 := v.set i (min (v[i] + 1) 65535)

/-- The switch unit with the record of one switch replaced. -/
def SwitchUnit.withRecord (u : SwitchUnit) (n : SwitchNo) (r : SwitchRecord) : SwitchUnit :=
  { u with records := u.records.set n r }

end Sys2Proof.Machine
end

