-- ==== Sys2Proof/Certificates/Slice0/Obligations.lean ====
section
/-! DEFINITION. The statements for the provers: what the numbered rules of spec/ say a step of the station does,
what it leaves alone, and what every step keeps. -/

open Sys2Proof Sys2Proof.Machine

/-! ### What several statements share -/

/-- A timer after one quantum of time: one quantum more, up to its limit. -/
def ran (w : Countup) : Countup := { w with elapsed := min (w.elapsed + 1) w.limit }

/-- A timer that may be stopped, after one quantum of time. -/
def ranIfRunning (t : Timer) : Timer := t.map ran

/-- A request's, or a frame's, only effect is one count. -/
def CountedOnly (i : Fin 15) (s t : State) : Prop :=
  t = { s with service := { s.service with counters := counted i s.service.counters } }

/-- R50: the three conditions under which a press, or a quick re-flip, starts a kick. -/
abbrev MayPress (s : State) : Prop :=
  s.faultLine.drive = .normal ∧ (s.rail.state = .up ∨ s.rail.state = .sag) ∧
  (s.link.state = .listen ∨ s.link.state = .announced ∨ s.link.state = .armed ∨ s.link.state = .duplicate)

/-- A channel whose output has just been turned off in KICK or HOLD: timers stopped, duty absent, and the off-current
timer started if the sense still shows current (R63). -/
def turnedOff (ch : CoilChannel) (sense : Sense) (st : CoilState) (rest : Timer) : CoilChannel :=
  { ch with state := st, kickTimer := none, holdTimer := none, restTimer := rest, duty := none,
            pwmPhase := 0, driven := 0, offTimer := if sense = .none then none else some (startTimer (ms 5)) }

/-- A channel with its output off and the timers of its drive stopped, at an entry to `st` that a state of the drive
does not turn off at once (R59, R62, R73): its off-current timer is `off`. -/
def quiet (ch : CoilChannel) (st : CoilState) (off : Timer) : CoilChannel :=
  { ch with state := st, kickTimer := none, holdTimer := none, restTimer := none, duty := none, pwmPhase := 0
            driven := 0, offTimer := off }

/-- A channel after an external end (R56, R57): KICK, HOLD and REST become IDLE at once.  From REST the off-current timer
runs on, as the output stays off (R63). -/
def externallyEnded (ch : CoilChannel) (sense : Sense) : CoilChannel :=
  if commandedOn ch.state then turnedOff ch sense .idle none
  else if ch.state = .rest then quiet ch .idle ch.offTimer else ch

/-- D_own once every channel has ended (R56, Table 2-2). -/
def committedEnded (s : State) : Nat :=
  s.sched.committed - (allCoils.map fun c => drawOf s.settings.coils[c] s.coils[c]).sum

/-- The fire queue with an ANNOUNCING entry returned to QUEUED at its place, and every other entry as it was (R37). -/
def queueWithdrawn (s : State) : List Entry :=
  s.sched.queue.map fun e =>
    if s.sched.announce.map Announce.coil = some e.coil then { e with phase := .queued } else e

/-- The transmit side as R135 cuts it back, from that of `b`: the SVC_REPLY and its series go on, any other series ends,
once its attempt on the wire has. -/
def cutBack (b : Bus) : Bus :=
  { b with
    general := b.general.filter isReply, drawPending := false
    series := b.series.bind fun r =>
      if r.kind = .reply then some r else if b.wire = none then none else some { r with cut := true } }

/-- The demand of logical mode `m` with flash record `f` (Table 7-2): LIT in ON, and in the LIT half of a flash. -/
def demands (m : LampMode) (f : Option Flash) : Bool :=
  decide (m = .lit) || (decide (m = .flash) && f.any Flash.halfLit)

/-- A lamp given logical mode `m` with flash record `f` (R108 to R111): the drive stage follows the demand at once, but
an incandescent lamp that is DARK waits for its warm-up, and one that goes dark stops it. -/
def lampGiven (cfg : LampSettings) (ch : LampChannel) (m : LampMode) (f : Option Flash) : LampChannel :=
  { ch with
    mode := m, flash := f
    stage := if demands m f = false then .dark else if cfg.incandescent = false then .lit
      else if ch.stage = .dark then .waiting else ch.stage
    warmUp := if cfg.incandescent = true ∧ demands m f = false then none else ch.warmUp }

/-- The lamp unit once each lamp of `ns`, in this order, has taken its mode and flash record of `new` (R108 to R111):
of the lamp start queue, the lamps that go dark leave and those that begin to wait join the tail. -/
def lampsGiven (cfg : Vector LampSettings 24) (ns : List LampNo) (new : LampNo → LampMode × Option Flash)
    (u : LampUnit) : LampUnit :=
  let dims (n : LampNo) : Bool := cfg[n].incandescent && !demands (new n).1 (new n).2
  let joins (n : LampNo) : Bool :=
    cfg[n].incandescent && demands (new n).1 (new n).2 && decide (u.lamps[n].stage = .dark)
  { u with
    lamps := Vector.ofFn fun n => if n ∈ ns then lampGiven cfg[n] u.lamps[n] (new n).1 (new n).2 else u.lamps[n]
    queue := (u.queue.filter fun n => !(decide (n ∈ ns) && dims n)) ++ ns.filter joins }

/-! ### The queue of commands and the passing of time -/

/-- One step with a command at the front of the queue is that command's meaning, with the queue's rest. -/
def Obligations.StepRunsFrontCommand : Prop :=
  ∀ (s : State) (c : Instr) (rest : List Instr),
    step { s with pending := c :: rest } = exec c (s.withPending rest)

/-- Every command, with any operands and in any state, answers a next state and leaves the queue alone.  That a
command whose event does not occur in the state it meets answers a next state too is the model's choice (log entry
2, DESIGN CHOICE), and so is that a reset keeps the commands that wait (log entry 18, DESIGN CHOICE). -/
def Obligations.EveryCommandCompletes : Prop :=
  ∀ (s : State) (i : Instr), Yields (exec i s) fun t => t.pending = s.pending

/-- The model's choice (log entry 2): on an empty queue the station's first own event that has fallen due is taken,
or else one quantum of time passes. -/
def Obligations.EmptyQueueLetsTimePass : Prop :=
  ∀ (s : State), s.pending = [] →
    (∀ i, firstDue s = some i → isDue i s = true ∧ step s = exec i s) ∧
    (firstDue s = none → (∀ i ∈ ownEvents s, isDue i s = false) ∧ step s = .next (elapse s))

/-- The duty of a lamp's drive stage (Table 7-4). -/
def dutyOfStage (cfg : LampSettings) (stage : LampStage) : Nat :=
  match stage with
  | .dark => if cfg.incandescent then cfg.glow else 0
  | .waiting => if cfg.incandescent then cfg.glow else 0
  | .warming => 16
  | .lit => cfg.brightness

/-- One quantum of time: every running timer is one quantum older, up to its limit, but a wait timer whose channel is
in KICK or REST (scope 3.4, R12); the PWM periods go on, and a new one takes the duty then in force (R45, R108, Table
7-4); nothing else changes.  What the coil and lamp outputs give at any moment follows from phase and duty.  The model's
choices: the quantum (log entry 2), the common period of the lamps (4), current seen in KICK (13), the end of the idle
count (19), a period that takes its duty before the events of the moment at which it begins (31). -/
def Obligations.TimeRunsTimersOnly : Prop :=
  ∀ (s : State),
    let t := elapse s
    Framed [.startUp, .link, .sched, .coils, .thermal, .switches, .lamps, .bus, .rail, .faultLine] s t ∧
    t.startUp = { s.startUp with
      hold := ranIfRunning s.startUp.hold
      loader := match s.startUp.loader with
        | .waiting n w => .waiting n (ran w)
        | other => other } ∧
    t.link = { s.link with
      listenWindow := ranIfRunning s.link.listenWindow
      announcedTimer := ranIfRunning s.link.announcedTimer
      silence := ranIfRunning s.link.silence
      peers := s.link.peers.map fun p => { p with silence := ran p.silence } } ∧
    t.sched = { s.sched with
      queue := s.sched.queue.map fun e =>
        if s.coils[e.coil].state = .kick ∨ s.coils[e.coil].state = .rest then e else { e with wait := ran e.wait }
      announce := s.sched.announce.map fun a => { a with timer := ran a.timer } } ∧
    (∀ c : CoilNo, t.coils[c] = { s.coils[c] with
      kickTimer := ranIfRunning s.coils[c].kickTimer
      holdTimer := ranIfRunning s.coils[c].holdTimer
      restTimer := ranIfRunning s.coils[c].restTimer
      offTimer := ranIfRunning s.coils[c].offTimer
      currentSeen := s.coils[c].currentSeen ||
        (decide (s.coils[c].state = .kick) && decide (s.pins.sense[c] ≠ .none))
      pwmPhase := if s.coils[c].state = .hold then (s.coils[c].pwmPhase + 1) % ms 1 else s.coils[c].pwmPhase
      driven := if s.coils[c].state = .hold ∧ ms 1 ≤ s.coils[c].pwmPhase + 1 then s.coils[c].duty.getD 0
        else s.coils[c].driven }) ∧
    (∀ c : CoilNo, coilOutput s.coils[c] = true ↔ s.coils[c].state = .kick ∨
      (s.coils[c].state = .hold ∧ s.coils[c].pwmPhase < s.coils[c].driven * 125)) ∧
    t.thermal = { s.thermal with interval := ranIfRunning s.thermal.interval } ∧
    (∀ n : SwitchNo, t.switches.records[n] = { s.switches.records[n] with
      qualify := s.switches.records[n].qualify.map fun q => { q with timer := ran q.timer } }) ∧
    t.switches.clock = s.switches.clock ∧ t.switches.clockTimer = ran s.switches.clockTimer ∧
    (∀ n : LampNo, t.lamps.lamps[n] = { s.lamps.lamps[n] with
      flash := s.lamps.lamps[n].flash.map fun f => { f with timer := ran f.timer }
      warmUp := ranIfRunning s.lamps.lamps[n].warmUp
      driven := if s.lamps.pwmPhase + 1 < ms 1 then s.lamps.lamps[n].driven
        else if s.link.state = .offline ∨ s.link.state = .held then 0
        else dutyOfStage s.settings.lamps[n] s.lamps.lamps[n].stage }) ∧
    t.lamps = { s.lamps with lamps := t.lamps.lamps, phase := ranIfRunning s.lamps.phase
                             pwmPhase := (s.lamps.pwmPhase + 1) % ms 1 } ∧
    (∀ n : LampNo, lampOutput s n = true ↔ s.link.state ≠ .offline ∧ s.link.state ≠ .held ∧
      s.lamps.pwmPhase < s.lamps.lamps[n].driven * 125) ∧
    t.bus = { s.bus with
      wire := s.bus.wire.map fun w => { w with timer := ran w.timer }
      beatTimer := ranIfRunning s.bus.beatTimer
      byteLeft := s.bus.byteLeft - 1
      idle := if s.bus.started = true ∧ s.bus.wire = none ∧ s.bus.byteLeft = 0 then min (s.bus.idle + 1) (bits 516)
        else s.bus.idle } ∧
    t.rail = { s.rail with settle := ranIfRunning s.rail.settle, sagQualify := ranIfRunning s.rail.sagQualify
                           sagClear := ranIfRunning s.rail.sagClear } ∧
    t.faultLine = { s.faultLine with release := ranIfRunning s.faultLine.release }

/-! ### Reset -/

/-- What the spec says of every block after a power-on reset.  The model's choices: a channel's
current-seen mark (log entry 29), its record of a PWM period (33) and the heat level while OFFLINE (32). -/
def Obligations.ResetState : Prop :=
  State.reset.link.state = .offline ∧ State.reset.link.peers = [] ∧ State.reset.link.memory = [] ∧
  State.reset.link.degraded = false ∧ State.reset.link.duplicateSeen = false ∧
  State.reset.link.abandonCount = 0 ∧ State.reset.sched.queue = [] ∧ State.reset.sched.announce = none ∧
  State.reset.sched.committed = 0 ∧ State.reset.settings.capacity = 0 ∧ State.reset.settings.headroom = 0 ∧
  State.reset.settings.ceiling = 0 ∧ State.reset.settings.allowance = 0 ∧ State.reset.settings.reserve = 0 ∧
  (∀ c : CoilNo, State.reset.coils[c] = CoilChannel.reset ∧ coilOutput State.reset.coils[c] = false ∧
    State.reset.retained.heat[c] = 0 ∧ State.reset.thermal.levels[c] = .normal ∧
    State.reset.faultLine.kinds[c] = KindSet.empty) ∧
  (∀ n : SwitchNo, State.reset.switches.records[n] =
    { level := .unsettled, qualify := none, edgeCount := 0, lastEdge := 0, sequence := 0 }) ∧
  State.reset.switches.clock = 0 ∧ (∀ k : Fin 48, State.reset.reflex.entries[k] = none) ∧
  State.reset.reflex.setAside = 0 ∧
  (∀ n : LampNo, State.reset.lamps.lamps[n].mode = .dark ∧ State.reset.lamps.lamps[n].flash = none ∧
    State.reset.lamps.lamps[n].stage = .dark ∧ lampOutput State.reset n = false) ∧
  State.reset.lamps.queue = [] ∧ State.reset.lamps.phase = none ∧ State.reset.thermal.interval = none ∧
  State.reset.bus.general = [] ∧ State.reset.bus.drawPending = false ∧ State.reset.bus.series = none ∧
  State.reset.bus.wire = none ∧ State.reset.bus.beatTimer = none ∧ busDriven State.reset = none ∧
  State.reset.rail = { state := .down, settle := none, sagQualify := none, sagClear := none } ∧
  State.reset.faultLine.drive = .safe ∧ State.reset.faultLine.release = none ∧
  State.reset.faultLine.duplicate = false ∧ faultLineDriven State.reset = false ∧
  State.reset.service.events = 0 ∧ (∀ k : Fin 15, State.reset.service.counters[k] = 0) ∧
  State.reset.retained.cause = .powerOn ∧ State.reset.retained.dipCount = 0 ∧
  State.reset.retained.valid = true ∧ State.reset.retained.leftOffline = false ∧
  State.reset.startUp.hold = some (startTimer (ms 40)) ∧ statusLamp State.reset = true

/-- The invariants hold right after reset. -/
def Obligations.InvariantsHoldAtReset : Prop :=
  OutputsHeldOff State.reset ∧ ChannelsCoherent State.reset ∧ DrawMatches State.reset ∧
  WithinBudget State.reset ∧ QueueHolds State.reset ∧ SwitchesFollow State.reset ∧ LampsHold State.reset ∧
  TransmitHolds State.reset ∧ PeersHold State.reset ∧ HeatInRange State.reset ∧ CountersInRange State.reset

/-! ### What every step keeps -/

/-- R56: while SAFE, the rail DOWN or SETTLING, or the link HELD or OFFLINE lasts, no step leaves a channel in KICK,
HOLD or REST, and every coil output is off. -/
def Obligations.OutputsStayHeldOff : Prop :=
  ∀ (s t : State), OutputsHeldOff s → step s = .next t →
    OutputsHeldOff t ∧ (HeldOff t → ∀ c : CoilNo, coilOutput t.coils[c] = false)

/-- Table 3-1: every step keeps every channel record coherent, and no FLIPPER channel enters LOCKOUT. -/
def Obligations.ChannelsStayCoherent : Prop :=
  ∀ (s t : State), ChannelsCoherent s → step s = .next t → ChannelsCoherent t

/-- R23: every step keeps D_own equal to the sum over the PULSE and LATCH channels. -/
def Obligations.CommittedDrawStaysExact : Prop :=
  ∀ (s t : State), DrawMatches s → step s = .next t → DrawMatches t

/-- R24: no step takes D_own + R_own past min(M_own, C − H), and D_own stays within 0–255. -/
def Obligations.BudgetNeverExceeded : Prop :=
  ∀ (s t : State), WithinBudget s → step s = .next t →
    WithinBudget t ∧ t.sched.committed ≤ 255 ∧ t.sched.committed + t.settings.reserve ≤
      min t.settings.ceiling (t.settings.capacity - t.settings.headroom)

/-- R5: every step keeps the fire queue within its bounds and in order. -/
def Obligations.FireQueueStaysSound : Prop :=
  ∀ (s t : State), QueueHolds s → step s = .next t → QueueHolds t

/-- R83, R85, R87: every step keeps each qualify timer running exactly towards the level its input calls for. -/
def Obligations.QualifyTimersFollowInputs : Prop :=
  ∀ (s t : State), SwitchesFollow s → step s = .next t → SwitchesFollow t

/-- R109, R110, R112: every step keeps the lamp start queue equal to the WAITING lamps, each once. -/
def Obligations.LampQueueStaysSound : Prop :=
  ∀ (s t : State), LampsHold s → step s = .next t → LampsHold t

/-- R126: no step takes the transmit queue past 15 general entries or one SVC_REPLY. -/
def Obligations.TransmitQueueStaysBounded : Prop :=
  ∀ (s t : State), TransmitHolds s → step s = .next t → TransmitHolds t

/-- R145: every step keeps the peer draw table to one entry for each of the other numbers 1–30. -/
def Obligations.PeerTableStaysSound : Prop :=
  ∀ (s t : State), PeersHold s → step s = .next t → PeersHold t

/-- R68, R171: every step keeps the accumulators and the counters within 0–65535. -/
def Obligations.HeatAndCountersStayInRange : Prop :=
  ∀ (s t : State), HeatInRange s ∧ CountersInRange s → step s = .next t → HeatInRange t ∧ CountersInRange t

/-! ### Frames on the line -/

/-- A frame that Table 8-1 can lay out. -/
abbrev FitsTheLine (f : Frame) : Prop :=
  f.src ≤ 255 ∧ f.dst ≤ 255 ∧ f.kind ≤ 15 ∧ f.payload.length ≤ 12

/-- R118, R119, R120, R122: the bytes of a frame are received as that good frame; with any other two check bytes they
are a bad frame; cut short, they are no complete frame.  On the line the station is passive but for an attempt of its
own, whose bytes follow each other with no idle time, each as an active start bit, its data bits from the least
significant on, and a passive stop bit.  Which data bit is active is a free value (log entry 28, the model's choice). -/
def Obligations.FrameBytesReceivedAsSent : Prop :=
  ∀ (f : Frame), FitsTheLine f →
    classify f.bytes = .good f ∧ f.bytes.length = f.payload.length + 6 ∧
    (∀ x y : Byte, [x, y] ≠ pair (crc f.body).toNat → classify (syncByte :: f.body ++ [x, y]) = .bad) ∧
    (∀ n, n < f.bytes.length → classify (f.bytes.take n) = .incomplete) ∧
    (∀ s : State, s.bus.wire = none → lineDriven s = .passive) ∧
    (∀ (s : State) (w : Wire) (k i : Nat), s.bus.wire = some w → w.frame = f →
      w.timer.limit = bits (10 * f.bytes.length) → k < f.bytes.length → i < 10 →
      w.timer.elapsed / bits 1 = 10 * k + i →
      lineDriven s = if i = 0 then .active else if i = 9 then .passive
        else if (f.bytes.getD k 0).getLsbD (i - 1) = Config.activeData then .active else .passive)

/-- R130, R132: no back-off while no attempt of the series has failed; then the back-off formula, and that two stations
with the same count of failed attempts back off by different numbers of slots. -/
def Obligations.BackOffSlots : Prop :=
  (∀ a : Nat, backOff a 0 = 0) ∧
  ∀ (k : Fin 8), k ≠ 0 →
    (∀ a : Fin 32, backOff a.val k.val = (a.val * (2 * k.val + 1) + k.val) % 32 ∧ backOff a.val k.val ≤ 31) ∧
    (∀ a b : Fin 32, 1 ≤ a.val → 1 ≤ b.val → a ≠ b → backOff a.val k.val ≠ backOff b.val k.val)

/-! ### Start-up -/

/-- `t` is `s` after a reset: everything but the retained store is as after reset, and what stands outside the part
(its pins, the commands that wait) stays.  The model's choices in it: the values of State.reset that the spec does not
state (log entries 3, 4, 29, 30, 32 and 33), and that pins, waiting commands and the count of free values stay (5, 18 and
1). -/
def ResetFrom (s t : State) : Prop :=
  t = { State.reset with pending := s.pending, pins := s.pins, retained := t.retained, freeIndex := s.freeIndex }

/-- R162: the kinds of reset and what the retained store keeps; the loss of the validity mark.  The model's choices:
that every reset keeps the pins (log entry 5), the waiting commands (18) and the count of free values (1), and the
values after a reset that the spec does not state: settings and strap number (3), the lamps' PWM period (4), the
current-seen marks (29), the raised-since-sample marks (30), the heat levels (32), what the model holds of coil PWM
periods and of the line (33).  That a dip with the mark lost is a POWER_ON reset is the model's reading (17). -/
def Obligations.ResetKinds : Prop :=
  ∀ (s : State),
    Yields (exec .powerOn s) (fun t => ResetFrom s t ∧
      t.retained = { heat := Vector.replicate 16 0, cause := .powerOn, dipCount := 0, valid := true,
                     leftOffline := false }) ∧
    (s.retained.valid = true → Yields (exec .supplyDip s) fun t => ResetFrom s t ∧
      t.retained = { s.retained with
        dipCount := min (s.retained.dipCount + 1) 65535
        cause := if s.retained.leftOffline then .supplyDip else .powerOn }) ∧
    (s.retained.valid = false → Yields (exec .supplyDip s) fun t => exec .powerOn s = .next t) ∧
    Yields (exec .validityMarkLost s) (fun t =>
      t.retained = { s.retained with valid := false } ∧ Framed [.retained] s t)

/-- R163, R136, R161: the end of the power-up hold. -/
def Obligations.PowerUpHoldEnds : Prop :=
  ∀ (s : State) (straps : BitVec 5), timerReached s.startUp.hold = true →
    Yields (exec (.powerUpHoldEnd straps) s) fun t =>
      t.startUp = { hold := none, strapNumber := straps.toNat, loader := .reading 1, outcome := none } ∧
      t.bus = { s.bus with started := true, byteLeft := 0, idle := 0, receiver := .between } ∧
      t.faultLine = { s.faultLine with
        watching := true
        release := if s.pins.tfaultLow then none else some (startTimer (ms 100)) } ∧
      Framed [.startUp, .bus, .faultLine] s t

/-- R164: the first and second read errors are followed by a wait of 10 ms and a new attempt from byte 0. -/
def Obligations.LoaderRetries : Prop :=
  ∀ (s : State) (n : Nat) (w : Countup),
    (s.startUp.loader = .reading n → n < 3 → Yields (exec .configReadError s) fun t =>
      t.startUp = { s.startUp with loader := .waiting n (startTimer (ms 10)) } ∧ Framed [.startUp] s t) ∧
    (s.startUp.loader = .waiting n w → w.limit ≤ w.elapsed → Yields (exec .configRetryWaitExpiry s) fun t =>
      t.startUp = { s.startUp with loader := .reading (n + 1) } ∧ Framed [.startUp] s t)

/-- R167, R143: what a rejection with outcome `o` leaves. -/
def Rejected (o : LoadOutcome) (s t : State) : Prop :=
  t.startUp = { s.startUp with loader := .ended, outcome := some o } ∧
  t.retained = { s.retained with leftOffline := true } ∧
  t.link = { s.link with state := .held, duplicateSeen := false } ∧
  (∀ c : CoilNo, t.coils[c] = externallyEnded s.coils[c] s.pins.sense[c]) ∧
  t.sched = { committed := committedEnded s, queue := [], announce := none, scanDue := true } ∧
  t.bus = { s.bus with drawPending := true } ∧
  Framed [.startUp, .retained, .link, .coils, .sched, .bus] s t

/-- R164, R165, R167: a third read error, or a pass that fails a check, puts the link into HELD, and no setting is
taken. -/
def Obligations.ImageRejected : Prop :=
  ∀ (s : State) (n : Nat) (img : List Byte), s.startUp.loader = .reading n →
    (3 ≤ n → Yields (exec .configReadError s) (Rejected .readError s)) ∧
    (img.length = 634 → loadOutcome img s.startUp.strapNumber ≠ .accepted →
      Yields (exec (.configPassEnd img) s) (Rejected (loadOutcome img s.startUp.strapNumber) s))

/-- The logical mode and flash record of a lamp's initial state (R116). -/
def initialGiven (cfg : LampSettings) : LampMode × Option Flash :=
  match cfg.initial with
  | .dark => (.dark, none)
  | .lit => (.lit, none)
  | .flash => (.flash, some { halfPeriod := cfg.halfPeriod, cycles := none, finalOn := false, halfLit := true
                              timer := startTimer (cs cfg.halfPeriod) })

/-- The channel at acceptance: current that its sense shows starts the off-current timer (log entry 10); an entry to
DUPLICATE ends the drive of a PULSE or LATCH channel (R57). -/
def channelAccepted (cls : CoilClass) (duplicate : Bool) (sense : Sense) (ch : CoilChannel) : CoilChannel :=
  if duplicate = true ∧ cls ≠ .flipper ∧ running ch.state = true then turnedOff ch sense .idle none
  else { ch with offTimer := if sense = .none then none else some (startTimer (ms 5)) }

/-- R167 and the rules it names (R21, R22, R79, R85, R93, R95, R116, R138, R139, R151): what an acceptance leaves, block
by block; where a duplicate has been seen, with all that an entry to DUPLICATE does (R142, R144, R16, R57, R135, R156).
The remote edge memory holds one empty record for each distinct pair that a remote entry in use names (R95, R150).  The
off-current timers rest on log entry 10 (the model's choice). -/
def Obligations.ImageAccepted : Prop :=
  ∀ (s : State) (n : Nat) (img : List Byte), s.startUp.loader = .reading n → img.length = 634 →
    loadOutcome img s.startUp.strapNumber = .accepted → s.rail.state = .down →
    Yields (exec (.configPassEnd img) s) fun t =>
      let dup := s.link.duplicateSeen
      t.startUp = { s.startUp with loader := .ended, outcome := some .accepted } ∧
      t.settings = settingsOf img ∧
      t.reflex = reflexTableOf img t.settings.coils ∧
      t.link = { s.link with
        state := if dup then .duplicate else .listen
        listenWindow := if dup then none else some (startTimer (cs (3 * t.settings.beat)))
        announcedTimer := if dup then none else s.link.announcedTimer
        silence := if dup then none else s.link.silence
        duplicateSeen := false, degraded := false, windowFrames := 0, windowBad := 0
        memory := memoryOf (remotePairs (ownNumber s) t.reflex) } ∧
      (let pairs := t.link.memory.map fun r => (r.station, r.switch)
       pairs.Nodup ∧ pairs.length ≤ 48 ∧ (∀ r ∈ t.link.memory, r.last = none) ∧
       ∀ p : Nat × Nat, p ∈ pairs ↔ ∃ k : Fin 48, ∃ e, t.reflex.entries[k] = some e ∧
         (e.source ≠ ownNumber s ∧ p = (e.source, e.switch))) ∧
      (∀ c : CoilNo, t.retained.heat[c] =
        if s.retained.cause = .powerOn then t.settings.coils[c].trip / 2 else s.retained.heat[c]) ∧
      t.retained = { s.retained with heat := t.retained.heat, leftOffline := true } ∧
      (∀ c : CoilNo, t.thermal.levels[c] = heatLevel t.settings.coils[c].trip t.retained.heat[c]) ∧
      t.thermal = { levels := t.thermal.levels, interval := some (startTimer (ms 1)), firstInterval := true } ∧
      (∀ k : SwitchNo, t.switches.records[k] = { s.switches.records[k] with
        qualify :=
          some (newQualify t.settings.switches[k] (judgedClosed t.settings.switches[k] s.pins.switchHigh[k])) }) ∧
      t.switches = { s.switches with records := t.switches.records } ∧
      t.lamps = { (lampsGiven t.settings.lamps allLamps (fun m => initialGiven t.settings.lamps[m]) s.lamps) with
        phase := some (startTimer (ms 5)) } ∧
      t.rail = (if t.settings.vOn ≤ s.pins.rail
        then { state := .settling, settle := some (startTimer (ms 200)), sagQualify := none, sagClear := none }
        else s.rail) ∧
      (∀ c : CoilNo, t.coils[c] = channelAccepted t.settings.coils[c].cls dup s.pins.sense[c] s.coils[c]) ∧
      (dup = false → t.sched = { s.sched with scanDue := true } ∧ t.bus = s.bus ∧ t.faultLine = s.faultLine ∧
        t.service = s.service) ∧
      (dup = true →
        t.sched = { committed := s.sched.committed -
                      (allCoils.map fun c => drawOf t.settings.coils[c] s.coils[c]).sum
                    queue := [], announce := none, scanDue := true } ∧
        t.bus = cutBack s.bus ∧
        t.faultLine = { s.faultLine with
          duplicate := s.faultLine.duplicate || t.settings.causeMask.duplicate } ∧
        t.service = { s.service with events := s.service.events ||| 0x2000#16
                                     raised := s.service.raised ||| 0x2000#16 }) ∧
      Framed [.startUp, .settings, .link, .reflex, .retained, .thermal, .switches, .lamps,
        .rail, .sched, .coils, .bus, .faultLine, .service] s t

/-- Table 11-3, in order, each check as the table words it, on the values in force. -/
def acceptanceChecks (img : List Byte) (strap : Nat) : List (LoadOutcome × Bool) :=
  let t := settingsOf img
  [(.format, decide (byteAt img 0 = 0x41)),
   (.length, decide (pairAt img 12 = 634)),
   (.check, decide (pairAt img 632 = (crc (img.take 632)).toNat)),
   (.station, decide (1 ≤ byteAt img 1 ∧ byteAt img 1 ≤ 30 ∧ byteAt img 1 = strap)),
   (.capacity, decide (8 ≤ t.capacity)),
   (.reserve, decide (t.reserve + t.headroom ≤ t.capacity ∧ t.reserve ≤ t.ceiling)),
   (.holdSource, decide (∀ c : CoilNo, t.coils[c].cls = .flipper → t.coils[c].holdSource ≤ 31)),
   (.coilDraw, decide (∀ c : CoilNo, t.coils[c].cls ≠ .flipper →
      t.coils[c].draw ≤ min t.ceiling (t.capacity - t.headroom) - t.reserve))]

/-- R165, Table 11-3: the outcome of a pass is that of the first check that does not hold, or ACCEPTED. -/
def Obligations.AcceptanceChecksInOrder : Prop :=
  ∀ (img : List Byte) (strap : Nat),
    loadOutcome img strap =
      (((acceptanceChecks img strap).find? fun p => !p.2).map Prod.fst).getD .accepted

/-- The offsets and bit fields of Tables 11-1 and 11-2 for the settings, with the clamps of R166, R78, R82 and R105. -/
def SettingsStoredAt (img : List Byte) (t : Settings) : Prop :=
  let b (n : Nat) : Nat := byteAt img n
  let bit (n k : Nat) : Bool := decide (b n / 2 ^ k % 2 = 1)
  t.capacity = b 2 ∧ t.headroom = min 63 (b 3) ∧ t.ceiling = b 4 ∧ t.allowance = b 5 ∧
  t.beat = min 25 (max 2 (b 6)) ∧ t.quality = min 64 (max 1 (b 7)) ∧ t.vOn = b 8 ∧ t.vSag = b 9 ∧
  t.statusMask = { notArmed := bit 10 0, railNotUp := bit 10 1, safe := bit 10 2, lockout := bit 10 3
                   fault := bit 10 4, degraded := bit 10 5 } ∧
  t.causeMask = { short := bit 11 0, stuck := bit 11 1, opened := bit 11 2, duplicate := bit 11 3 } ∧
  t.reserve = (allCoils.map fun c => if t.coils[c].cls = .flipper then t.coils[c].draw else 0).sum ∧
  (∀ c : CoilNo, t.coils[c] =
    { cls := if b (16 + 12 * c.val) % 4 = 1 then .latch else if b (16 + 12 * c.val) % 4 = 2 then .flipper else .pulse
      priority := b (16 + 12 * c.val) / 4 % 4
      holdSource := b (17 + 12 * c.val)
      draw := min 63 (max 1 (b (18 + 12 * c.val)))
      kickTime := max 1 (b (19 + 12 * c.val))
      duty := min 16 (max 1 (b (20 + 12 * c.val)))
      holdLimit := b (21 + 12 * c.val)
      restTime := b (22 + 12 * c.val)
      waitLimit := max 1 (b (23 + 12 * c.val))
      heatRate := b (24 + 12 * c.val)
      shift := min 15 (max 4 (b (25 + 12 * c.val)))
      trip := max 256 (256 * b (26 + 12 * c.val) + b (27 + 12 * c.val)) }) ∧
  (∀ n : SwitchNo, t.switches[n] =
    { closeDebounce := min 31 (max 1 (b (208 + 2 * n.val)))
      openDebounce := max 1 (b (209 + 2 * n.val) % 32)
      broadcast := bit (209 + 2 * n.val) 6
      invert := bit (209 + 2 * n.val) 7 }) ∧
  (∀ n : LampNo, t.lamps[n] =
    { incandescent := bit (560 + 3 * n.val) 0
      glow := b (560 + 3 * n.val) / 2 % 4
      brightness := min 16 (max 1 (b (561 + 3 * n.val)))
      halfPeriod := max 1 (b (562 + 3 * n.val))
      initial := if b (560 + 3 * n.val) / 16 % 4 = 1 then .lit
        else if b (560 + 3 * n.val) / 16 % 4 = 2 then .flash else .dark })

/-- Table 6-2: the checks on reflex record `k` of an image, with `cls` the class in force of each coil. -/
abbrev ReflexChecksHold (img : List Byte) (cls : CoilNo → CoilClass) (k : Nat) : Prop :=
  let b (n : Nat) : Nat := byteAt img (272 + 6 * k + n)
  1 ≤ b 0 ∧ b 0 ≤ 30 ∧ b 1 / 64 ≤ 2 ∧ b 2 / 64 ≤ 2 ∧ (b 2 / 64 ≠ 0 → b 2 % 32 < 24) ∧ b 3 ≤ 6 ∧
  (b 3 ≤ 2 → b 4 < 16) ∧ (3 ≤ b 3 → b 4 < 24) ∧
  (∀ c : CoilNo, b 4 = c.val → (b 3 = 0 → cls c = .pulse) ∧ (b 3 = 1 ∨ b 3 = 2 → cls c = .latch)) ∧
  (b 3 = 0 → 1 ≤ b 5 ∧ b 5 ≤ 15) ∧ (b 3 = 6 → b 5 ≤ 15)

/-- Table 11-2: reflex record `k` of an image as the entry `e`. -/
def ReflexStoredAt (img : List Byte) (k : Nat) (e : ReflexEntry) : Prop :=
  let b (n : Nat) : Nat := byteAt img (272 + 6 * k + n)
  e.source = b 0 ∧ e.switch = b 1 % 32 ∧
  e.edge = (if b 1 / 64 = 0 then .close else if b 1 / 64 = 1 then .opened else .both) ∧
  (b 2 / 64 = 0 → e.condition = .none) ∧
  (∀ n : LampNo, b 2 % 32 = n.val →
    (b 2 / 64 = 1 → e.condition = .lampLit n) ∧ (b 2 / 64 = 2 → e.condition = .lampUnlit n)) ∧
  (∀ c : CoilNo, b 4 = c.val →
    (b 3 = 0 → e.action = .pulse c (b 5)) ∧ (b 3 = 1 → e.action = .engage c) ∧ (b 3 = 2 → e.action = .release c)) ∧
  (∀ n : LampNo, b 4 = n.val →
    (b 3 = 3 → e.action = .lampOn n) ∧ (b 3 = 4 → e.action = .lampOff n) ∧ (b 3 = 5 → e.action = .lampToggle n) ∧
    (b 3 = 6 → e.action = .lampFlash n (b 5)))

/-- Tables 11-1 and 11-2, R22, R93, R94, R166, R78, R82, R105: where an image stores each value, the checks on its
reflex records, and the range (Table 4) in which every value in force lies, whatever the image stores. -/
def Obligations.ValuesInForceInRange : Prop :=
  ∀ (img : List Byte),
    (settingsOf img).capacity ≤ 255 ∧ (settingsOf img).headroom ≤ 63 ∧ (settingsOf img).ceiling ≤ 255 ∧
    (settingsOf img).allowance ≤ 255 ∧ 2 ≤ (settingsOf img).beat ∧ (settingsOf img).beat ≤ 25 ∧
    1 ≤ (settingsOf img).quality ∧ (settingsOf img).quality ≤ 64 ∧ (settingsOf img).vOn ≤ 255 ∧
    (settingsOf img).vSag ≤ 255 ∧
    (∀ r ∈ (settingsOf img).coils.toList, 1 ≤ r.draw ∧ r.draw ≤ 63 ∧ 1 ≤ r.kickTime ∧ r.kickTime ≤ 255 ∧
      1 ≤ r.duty ∧ r.duty ≤ 16 ∧ r.holdLimit ≤ 255 ∧ r.restTime ≤ 255 ∧ 1 ≤ r.waitLimit ∧ r.waitLimit ≤ 255 ∧
      r.priority ≤ 3 ∧ r.heatRate ≤ 255 ∧ 4 ≤ r.shift ∧ r.shift ≤ 15 ∧ 256 ≤ r.trip ∧ r.trip ≤ 65535) ∧
    (∀ r ∈ (settingsOf img).switches.toList, 1 ≤ r.closeDebounce ∧ r.closeDebounce ≤ 31 ∧
      1 ≤ r.openDebounce ∧ r.openDebounce ≤ 31) ∧
    (∀ r ∈ (settingsOf img).lamps.toList, r.glow ≤ 3 ∧ 1 ≤ r.brightness ∧ r.brightness ≤ 16 ∧
      1 ≤ r.halfPeriod ∧ r.halfPeriod ≤ 255) ∧
    SettingsStoredAt img (settingsOf img) ∧
    (let coils := (settingsOf img).coils
     let table := reflexTableOf img coils
     let good (k : Fin 48) : Prop := ReflexChecksHold img (fun c => coils[c].cls) k.val
     (∀ k : Fin 48, ¬good k → table.entries[k] = none) ∧
     (∀ k : Fin 48, good k → ∃ e, table.entries[k] = some e ∧ ReflexStoredAt img k.val e) ∧
     table.setAside = ((List.finRange 48).filter fun k =>
       decide (byteAt img (272 + 6 * k.val) ≠ 0 ∧ ¬ReflexChecksHold img (fun c => coils[c].cls) k.val)).length)

/-! ### Switches -/

/-- R84, R85, R83: the station clock counts milliseconds and wraps; an UNSETTLED switch adopts the level it has
timed, with no edge; a change of an input starts, or stops, its qualify timer. -/
def Obligations.SwitchInputsTimed : Prop :=
  ∀ (s : State) (n : SwitchNo) (q : Qualify) (high : Bool),
    (s.switches.clockTimer.limit ≤ s.switches.clockTimer.elapsed → Yields (exec .stationClockTick s) fun t =>
      t.switches = { s.switches with clock := s.switches.clock + 1, clockTimer := startTimer (ms 1) } ∧
      Framed [.switches] s t) ∧
    (takesEdges s.link.state = true → s.switches.records[n].level = .unsettled →
      s.switches.records[n].qualify = some q → q.timer.limit ≤ q.timer.elapsed →
      Yields (exec (.switchAdoption n) s) fun t =>
        t.switches = s.switches.withRecord n
          { s.switches.records[n] with level := if q.closed then .closed else .opened, qualify := none } ∧
        Framed [.switches] s t) ∧
    (s.pins.switchHigh[n] ≠ high → Yields (exec (.switchInputChange n high) s) fun t =>
      t.pins = { s.pins with switchHigh := s.pins.switchHigh.set n high } ∧ Framed [.pins, .switches] s t ∧
      (takesEdges s.link.state = false → t.switches = s.switches) ∧
      (takesEdges s.link.state = true →
        let r := s.switches.records[n]
        let cfg := s.settings.switches[n]
        let closed : Bool := high == cfg.invert
        let target := if closed then cfg.closeDebounce else cfg.openDebounce
        t.switches = s.switches.withRecord n { r with
          qualify := if r.level = (if closed then .closed else .opened) then none
            else some { closed := closed, timer := startTimer (ms target) } }))

/-- The qualify timer of settled switch `n` has reached its target in a state that takes edges; `q` is what it
timed. -/
abbrev EdgeFalls (n : SwitchNo) (q : Qualify) (s : State) : Prop :=
  takesEdges s.link.state = true ∧ s.switches.records[n].level ≠ .unsettled ∧
  s.switches.records[n].qualify = some q ∧ q.timer.limit ≤ q.timer.elapsed

/-- The edges of switch `n` go to the bus as SWITCH frames (R89). -/
abbrev Broadcasts (n : SwitchNo) (s : State) : Prop :=
  s.settings.switches[n].broadcast = true ∧ (s.link.state = .announced ∨ s.link.state = .armed)

/-- R86, R88, R89, R90, R96, R100: an edge: its record, the fate of its SWITCH frame, and then the walk of the reflex
table as a local edge of the own number, whose list is answered as LOCAL_SWITCH requests.  That the FLIPPER channels and
the bus come before the walk is the model's reading (log entry 16). -/
def Obligations.SwitchEdgeTaken : Prop :=
  ∀ (s : State) (n : SwitchNo) (q : Qualify), EdgeFalls n q s →
    Yields (exec (.switchEdge n) s) fun t =>
      let k : EdgeKind := if q.closed then .close else .opened
      let dropped : Bool := decide (Broadcasts n s ∧ 15 ≤ s.bus.general.length)
      t.switches = s.switches.withRecord n
        { level := if q.closed then .closed else .opened
          qualify := none
          edgeCount := s.switches.records[n].edgeCount + 1
          lastEdge := s.switches.clock
          sequence := if s.settings.switches[n].broadcast then s.switches.records[n].sequence + 1
                      else s.switches.records[n].sequence } ∧
      t.bus.general = (if Broadcasts n s ∧ s.bus.general.length < 15 then
          s.bus.general ++ [.switch n k (s.switches.records[n].sequence + 1)]
        else s.bus.general) ∧
      t.service.counters[11] = (if dropped then min (s.service.counters[11] + 1) 65535
        else s.service.counters[11]) ∧
      (dropped = true → t.service.events.getLsbD 5 = true) ∧
      (∃ u : State,
        t = answerList .localSwitch (walk (ownNumber s) n.val k u).2 (walk (ownNumber s) n.val k u).1 ∧
        u.switches = t.switches ∧ u.bus = { s.bus with general := t.bus.general } ∧
        u.service = (if dropped then
          { events := s.service.events ||| 0x20#16, raised := s.service.raised ||| 0x20#16
            counters := counted 11 s.service.counters } else s.service) ∧
        (∀ c : CoilNo, ¬(s.settings.coils[c].cls = .flipper ∧ s.settings.coils[c].holdSource = n.val) →
          u.coils[c] = s.coils[c]) ∧
        u.sched = { s.sched with scanDue := u.sched.scanDue } ∧ (s.sched.scanDue = true → u.sched.scanDue = true) ∧
        Framed [.switches, .coils, .sched, .bus, .service] s u) ∧
      Framed [.switches, .coils, .sched, .bus, .lamps, .service] s t

/-- R50, R51: what an edge of the hold source does to a FLIPPER channel, whatever else the edge does. -/
def Obligations.FlipperFollowsButton : Prop :=
  ∀ (s : State) (n : SwitchNo) (q : Qualify) (c : CoilNo), EdgeFalls n q s →
    s.settings.coils[c].cls = .flipper → s.settings.coils[c].holdSource = n.val →
    Yields (exec (.switchEdge n) s) fun t =>
      (q.closed = true → s.coils[c].state = .idle → MayPress s →
        t.coils[c].state = .kick ∧ t.coils[c].currentSeen = false ∧
        t.coils[c].kickTimer = some (startTimer (ms (if s.thermal.levels[c] = .hot
          then max 1 (s.settings.coils[c].kickTime / 2) else s.settings.coils[c].kickTime)))) ∧
      (q.closed = true → ¬(s.coils[c].state = .idle ∧ MayPress s) → t.coils[c] = s.coils[c]) ∧
      (q.closed = false → t.coils[c].needsRelease = false ∧
        t.coils[c].state =
          if s.coils[c].state = .kick ∨ s.coils[c].state = .hold then
            (if s.settings.coils[c].restTime = 0 then .idle else .rest)
          else s.coils[c].state) ∧
      (q.closed = false → s.coils[c].state = .kick ∨ s.coils[c].state = .hold →
        t.coils[c].kickTimer = none ∧ t.coils[c].holdTimer = none ∧ t.coils[c].duty = none ∧
        t.coils[c].restTimer = if s.settings.coils[c].restTime = 0 then none
          else some (startTimer (cs s.settings.coils[c].restTime)))

/-! ### Reflexes -/

/-- R94, R100: with a table loaded from any image, every coil request of a walk suits its coil's class, and every
PULSE of it carries a count of 1–15. -/
def Obligations.ReflexRequestsSuit : Prop :=
  ∀ (s : State) (img : List Byte) (src sw : Nat) (k : EdgeKind),
    s.settings = settingsOf img → s.reflex = reflexTableOf img s.settings.coils →
    ∀ r ∈ (walk src sw k s).2,
      actionSuits s.settings.coils[r.coil].cls r.action = true ∧ 1 ≤ r.pulses ∧ r.pulses ≤ 15

/-- R97, R99: reflex entry `e` is applied at its turn in the walk of an edge, in state `s`: it matches, and its
condition holds by the logical mode of its lamp as it then stands. -/
abbrev TurnActs (src sw : Nat) (k : EdgeKind) (e : ReflexEntry) (s : State) : Prop :=
  e.source = src ∧ e.switch = sw ∧
  (e.edge = .both ∨ (e.edge = .close ∧ k = .close) ∨ (e.edge = .opened ∧ k = .opened)) ∧
  (∀ n : LampNo, (e.condition = .lampLit n → s.lamps.lamps[n].mode = .lit ∨ s.lamps.lamps[n].mode = .flash) ∧
    (e.condition = .lampUnlit n → s.lamps.lamps[n].mode = .dark))

/-- R100, R101: what an action does to the lamps and to the walk's list of coil requests. -/
def actionTaken (a : ReflexAction) (s : State) (l : List CoilRequest) : State × List CoilRequest :=
  match a with
  | .pulse c n => (s, l ++ [{ coil := c, action := .pulse, pulses := n }])
  | .engage c => (s, l ++ [{ coil := c, action := .engage, pulses := 1 }])
  | .release c => (s, l ++ [{ coil := c, action := .release, pulses := 1 }])
  | .lampOn n => (lampCommand n .on s, l)
  | .lampOff n => (lampCommand n .off s, l)
  | .lampToggle n => (lampCommand n .toggle s, l)
  | .lampFlash n count => (lampCommand n (.flash s.settings.lamps[n].halfPeriod count false) s, l)

/-- R97 to R101: a walk takes the 48 entries in table order, each by the state and list that the one before left, and
changes lamps alone.  R98, R100: its list is answered request by request, in order, with the edge's origin, and no kick
starts meanwhile. -/
def Obligations.WalkTouchesLampsOnly : Prop :=
  ∀ (s : State) (src sw : Nat) (k : EdgeKind) (o : Origin) (l : List CoilRequest) (r : CoilRequest),
    Framed [.lamps] s (walk src sw k s).1 ∧
    (∃ w : Nat → State × List CoilRequest, w 0 = (s, []) ∧ walk src sw k s = w 48 ∧
      ∀ i : Fin 48,
        (∀ e, s.reflex.entries[i] = some e → TurnActs src sw k e (w i.val).1 →
          w (i.val + 1) = actionTaken e.action (w i.val).1 (w i.val).2) ∧
        (∀ e, s.reflex.entries[i] = some e → ¬TurnActs src sw k e (w i.val).1 → w (i.val + 1) = w i.val) ∧
        (s.reflex.entries[i] = none → w (i.val + 1) = w i.val)) ∧
    answerList o [] s = s ∧
    answerList o (r :: l) s = answerList o l (request r.coil r.action r.pulses o s).1 ∧
    Framed [.sched, .coils, .bus, .service] s (answerList o l s) ∧
    (∀ c : CoilNo, (answerList o l s).coils[c].state = .kick → s.coils[c].state = .kick)

/-! ### Coil requests -/

/-- The link, the class and the state of coil `c` let a request of action `a` through R2 and R3. -/
abbrev PassesChecks (c : CoilNo) (a : CoilAction) (s : State) : Prop :=
  s.link.state ≠ .held ∧ s.link.state ≠ .duplicate ∧
  ((s.settings.coils[c].cls = .pulse ∧ a = .pulse) ∨
    (s.settings.coils[c].cls = .latch ∧ (a = .engage ∨ a = .release))) ∧
  s.coils[c].state ≠ .fault ∧ s.coils[c].state ≠ .lockout

/-- R2, R3: the checks, in order; a request that fails one is answered with that check's outcome, is counted, and
changes nothing else. -/
def Obligations.RequestChecks : Prop :=
  ∀ (s : State) (c : CoilNo) (a : CoilAction) (n : Nat) (o : Origin),
    (s.link.state = .held ∨ s.link.state = .duplicate →
      (request c a n o s).2 = .refused ∧ CountedOnly 14 s (request c a n o s).1) ∧
    (s.settings.coils[c].cls = .flipper ∨ (s.settings.coils[c].cls = .latch ∧ a = .pulse) ∨
        (s.settings.coils[c].cls = .pulse ∧ a ≠ .pulse) ∨ s.coils[c].state = .fault →
      (request c a n o s).2 = .refused ∧ CountedOnly 14 s (request c a n o s).1) ∧
    (s.link.state ≠ .held → s.link.state ≠ .duplicate → s.coils[c].state = .lockout →
        (s.settings.coils[c].cls = .pulse ∧ a = .pulse) ∨ (s.settings.coils[c].cls = .latch ∧ a ≠ .pulse) →
      (request c a n o s).2 = .lockedOut ∧ CountedOnly 9 s (request c a n o s).1)

/-- A new entry of R4: QUEUED, with its wait timer at 0. -/
def newEntry (s : State) (c : CoilNo) (kind : EntryKind) (n : Nat) (o : Origin) : Entry :=
  { coil := c, kind := kind, pulses := n, origin := o, phase := .queued
    wait := startTimer (cs s.settings.coils[c].waitLimit) }

/-- `t` is `s` with entry `e` created: behind every entry whose coil's priority number is the same or smaller, before
the others (R6), and a scan owed (R17). -/
def Created (e : Entry) (s t : State) : Prop :=
  t = { s with sched := { s.sched with
    queue := s.sched.queue.takeWhile (fun x => decide (s.settings.coils[x.coil].priority ≤
        s.settings.coils[e.coil].priority)) ++ e ::
      s.sched.queue.dropWhile (fun x => decide (s.settings.coils[x.coil].priority ≤
        s.settings.coils[e.coil].priority))
    scanDue := true } }

/-- A request refused with QUEUE_FULL: counted, and the event raised. -/
def RefusedFull (s t : State) : Prop :=
  t = { s with service := {
    events := s.service.events ||| 1#16, raised := s.service.raised ||| 1#16
    counters := counted 7 s.service.counters } }

/-- R7, R6: a PULSE request that has passed R3 merges, creates an entry, or is refused with QUEUE_FULL. -/
def Obligations.PulseRequestAnswered : Prop :=
  ∀ (s : State) (c : CoilNo) (n : Nat) (o : Origin), PassesChecks c .pulse s →
    ((∃ e ∈ s.sched.queue, e.coil = c) →
      (request c .pulse n o s).2 = .merged ∧
      (request c .pulse n o s).1 = { s with
        sched := { s.sched with queue := s.sched.queue.map fun e =>
          if e.coil = c then { e with pulses := min (e.pulses + n) 15 } else e }
        service := { s.service with counters := counted 6 s.service.counters } }) ∧
    ((∀ e ∈ s.sched.queue, e.coil ≠ c) → s.sched.queue.length < 12 →
      (request c .pulse n o s).2 = .accepted ∧
      Created (newEntry s c .pulses n o) s (request c .pulse n o s).1) ∧
    ((∀ e ∈ s.sched.queue, e.coil ≠ c) → 12 ≤ s.sched.queue.length →
      (request c .pulse n o s).2 = .queueFull ∧ RefusedFull s (request c .pulse n o s).1)

/-- The queue without coil `c`, and the announce record without it (R38). -/
def withoutEntry (c : CoilNo) (q : Scheduler) : Scheduler :=
  { q with queue := q.queue.filter fun e => e.coil ≠ c
           announce := if q.announce.map Announce.coil = some c then none else q.announce
           scanDue := true }

/-- The announce record of coil `c`'s entry stood, with a draw, so that its end changes the reported draw. -/
def announced (c : CoilNo) (q : Scheduler) : Bool :=
  match q.announce with
  | none => false
  | some a => decide (a.coil = c) && decide (a.draw ≠ 0)

/-- R8, R9: ENGAGE and RELEASE requests for a LATCH channel that have passed R3. -/
def Obligations.EngageAndReleaseAnswered : Prop :=
  ∀ (s : State) (c : CoilNo) (n : Nat) (o : Origin), PassesChecks c .engage s →
    (s.coils[c].state = .kick ∨ s.coils[c].state = .hold ∨ (∃ e ∈ s.sched.queue, e.coil = c) →
      (request c .engage n o s).2 = .merged ∧ CountedOnly 6 s (request c .engage n o s).1) ∧
    (s.coils[c].state = .idle ∨ s.coils[c].state = .rest → (∀ e ∈ s.sched.queue, e.coil ≠ c) →
      (s.sched.queue.length < 12 → (request c .engage n o s).2 = .accepted ∧
        Created (newEntry s c .engage 1 o) s (request c .engage n o s).1) ∧
      (12 ≤ s.sched.queue.length → (request c .engage n o s).2 = .queueFull ∧
        RefusedFull s (request c .engage n o s).1)) ∧
    ((∃ e ∈ s.sched.queue, e.coil = c) →
      (request c .release n o s).2 = .cancelled ∧
      (request c .release n o s).1 = { s with
        sched := withoutEntry c s.sched, bus := markedIf (announced c s.sched) s }) ∧
    ((∀ e ∈ s.sched.queue, e.coil ≠ c) → s.coils[c].state ≠ .hold →
      (request c .release n o s).2 = .accepted ∧ (request c .release n o s).1 = s) ∧
    ((∀ e ∈ s.sched.queue, e.coil ≠ c) → s.coils[c].state = .hold →
      (request c .release n o s).2 = .accepted ∧
      (request c .release n o s).1.coils[c].state =
        (if s.settings.coils[c].restTime = 0 then .idle else .rest) ∧
      (request c .release n o s).1.coils[c].duty = none ∧
      (request c .release n o s).1.sched.committed =
        s.sched.committed - (s.settings.coils[c].draw * s.settings.coils[c].duty + 15) / 16 ∧
      (request c .release n o s).1.sched.queue = s.sched.queue ∧
      (∀ d : CoilNo, d ≠ c → (request c .release n o s).1.coils[d] = s.coils[d]) ∧
      Framed [.coils, .sched, .bus] s (request c .release n o s).1)

/-- R1, R124: a good FIRE frame that passes the filter is answered as one coil request of origin FIRE_FRAME; a count
of 0 presents 1. -/
def Obligations.FireFrameIsRequest : Prop :=
  ∀ (s : State) (rx : List Byte) (f : Frame), goodFrameFor .fire rx s = some f →
    Yields (exec (.fireFrame rx) s) fun t => ∃ c : CoilNo, c.val = byteAt f.payload 0 ∧
      t = (request c (if byteAt f.payload 1 % 4 = 0 then .pulse else if byteAt f.payload 1 % 4 = 1 then .engage
          else .release)
        (if byteAt f.payload 1 / 16 = 0 then 1 else byteAt f.payload 1 / 16) .fireFrame (takeGood s)).1

/-! ### The scan and the announce -/

/-- The queue after a kick has been delivered for coil `c` (R10): one pulse fewer, QUEUED again with its wait timer at
0, and gone with its last pulse. -/
def pulseTaken (c : CoilNo) (q : List Entry) : List Entry :=
  let used (e : Entry) : Entry :=
    if e.coil = c then { e with pulses := e.pulses - 1, phase := .queued, wait := startTimer e.wait.limit } else e
  (q.map used).filter fun e => !(decide (e.coil = c) && decide (e.pulses = 0))

/-- A kick of coil `c` has started from the queue (R10, R32, R47): the entry, the delivered counter, the channel and
D_own; the change of D_own owes a scan and marks the draw slot. -/
def KickStarted (c : CoilNo) (s t : State) : Prop :=
  t.coils = s.coils.set c { s.coils[c] with
    state := .kick, kickTimer := some (startTimer (ms s.settings.coils[c].kickTime)), currentSeen := false
    holdTimer := none, duty := none, restTimer := none, offTimer := none, pwmPhase := 0, driven := 0 } ∧
  t.sched = { s.sched with
    committed := s.sched.committed + s.settings.coils[c].draw
    queue := pulseTaken c s.sched.queue
    scanDue := true } ∧
  t.service = { s.service with counters := counted 5 s.service.counters } ∧
  t.bus = markedIf true s ∧ Framed [.coils, .sched, .service, .bus] s t

/-- A scan that does nothing but answer its prompt. -/
def ScannedOnly (s t : State) : Prop := t = { s with sched := { s.sched with scanDue := false } }

/-- R30, R31, R33, R34: a scan takes the first eligible entry as its candidate, and starts its kick, marks it
ANNOUNCING, or lets it wait. -/
def Obligations.ScanActsOnCandidate : Prop :=
  ∀ (s : State) (e : Entry), s.sched.scanDue = true →
    Yields (exec .scan s) fun t =>
      ((∀ x ∈ s.sched.queue, eligible s x.coil = false) → ScannedOnly s t) ∧
      (s.sched.queue.find? (fun x => eligible s x.coil) = some e → s.settings.coils[e.coil].cls ≠ .flipper →
        1 ≤ s.settings.coils[e.coil].draw →
        (s.sched.announce = none →
          (fits s s.sched.committed s.settings.coils[e.coil].draw = false → ScannedOnly s t) ∧
          (fits s s.sched.committed s.settings.coils[e.coil].draw = true →
            (withinAllowance s s.sched.committed s.settings.coils[e.coil].draw = true →
              KickStarted e.coil s t) ∧
            (withinAllowance s s.sched.committed s.settings.coils[e.coil].draw = false →
              t = { s with
                sched := { s.sched with
                  scanDue := false
                  queue := s.sched.queue.map fun x =>
                    if x.coil = e.coil then { x with phase := .announcing } else x
                  announce := some { coil := e.coil, draw := s.settings.coils[e.coil].draw,
                                     timer := startTimer (ms 20), carried := false } }
                bus := markedIf true s }))) ∧
        (∀ a, s.sched.announce = some a →
          (a.coil = e.coil → ScannedOnly s t) ∧
          (a.coil ≠ e.coil →
            (fits s (s.sched.committed + a.draw) s.settings.coils[e.coil].draw = true ∧
              withinAllowance s (s.sched.committed + a.draw) s.settings.coils[e.coil].draw = true →
              KickStarted e.coil s t) ∧
            (¬(fits s (s.sched.committed + a.draw) s.settings.coils[e.coil].draw = true ∧
              withinAllowance s (s.sched.committed + a.draw) s.settings.coils[e.coil].draw = true) →
              ScannedOnly s t))))

/-- R27, R26, R25, Table 2-3: the two fits, the allowance, and the peer sum, in the quantities of the budget. -/
def Obligations.FitTests : Prop :=
  ∀ (s : State) (base d : Nat),
    (fits s base d = true ↔
      base + s.settings.reserve + peerSum s + s.settings.headroom + d ≤ s.settings.capacity ∧
      base + s.settings.reserve + d ≤ s.settings.ceiling) ∧
    (withinAllowance s base d = true ↔ base + d ≤ if s.link.degraded then 0 else s.settings.allowance) ∧
    peerSum s = (s.link.peers.map fun p =>
      if s.link.degraded = true ∨ p.stale = true then p.ceiling else p.draw + p.reserve).sum ∧
    (∀ c : CoilNo, eligible s c = true ↔
      s.link.state = .armed ∧ s.rail.state = .up ∧ s.faultLine.drive = .normal ∧ s.coils[c].state = .idle ∧
      s.retained.heat[c] < s.settings.coils[c].trip)

/-- R37, R13, R38: at 20 ms an announce is withdrawn, and at its wait limit an entry is removed with EXPIRED. -/
def Obligations.AnnounceAndWaitLimits : Prop :=
  ∀ (s : State) (a : Announce) (c : CoilNo) (e : Entry),
    (s.sched.announce = some a → a.timer.limit ≤ a.timer.elapsed → Yields (exec .announceTimerExpiry s) fun t =>
      t = { s with
        sched := { s.sched with
          announce := none, scanDue := true
          queue := s.sched.queue.map fun x => if x.coil = a.coil then { x with phase := .queued } else x }
        bus := markedIf (decide (a.draw ≠ 0)) s }) ∧
    (entryOf s c = some e → e.wait.limit ≤ e.wait.elapsed → Yields (exec (.waitLimitExpiry c) s) fun t =>
      t = { s with
        sched := withoutEntry c s.sched
        bus := markedIf (announced c s.sched) s
        service := { events := s.service.events ||| 2#16, raised := s.service.raised ||| 2#16
                     counters := counted 8 s.service.counters } })

/-! ### Coil channels -/

/-- A channel at the start of a kick (R47, R50). -/
def kickedFor (ch : CoilChannel) (time : Nat) : CoilChannel :=
  { ch with state := .kick, kickTimer := some (startTimer (ms time)), currentSeen := false, holdTimer := none
            duty := none, restTimer := none, offTimer := none, pwmPhase := 0, driven := 0 }

/-- `s` with channel `c` become `ch`, D_own become `n`, and what follows a change of D_own (R23, R29, R39). -/
def channelMoved (c : CoilNo) (ch : CoilChannel) (n : Nat) (s : State) : State :=
  { s with coils := s.coils.set c ch, sched := s.sched.withCommitted n
           bus := markedIf (decide (n ≠ s.sched.committed)) s }

/-- `s` with a scan owed (R29). -/
def scanOwed (s : State) : State := { s with sched := { s.sched with scanDue := true } }

/-- A channel has gone to rest for its rest time, or straight on to IDLE where that is 0, which owes a scan (R47). -/
def WentToRest (c : CoilNo) (ch : CoilChannel) (n : Nat) (s t : State) : Prop :=
  (s.settings.coils[c].restTime ≠ 0 → t = channelMoved c
    (turnedOff ch s.pins.sense[c] .rest (some (startTimer (cs s.settings.coils[c].restTime)))) n s) ∧
  (s.settings.coils[c].restTime = 0 →
    t = scanOwed (channelMoved c (turnedOff ch s.pins.sense[c] .idle none) n s))

/-- R53, Table 3-4: the smallest of the duties that apply. -/
def smallestDuty (q : Nat) (level : HeatLevel) (rail : RailState) : Nat :=
  min q (min (if level = .warm ∨ rail = .sag then max 1 (q / 2) else q) (if level = .hot then 1 else q))

/-- R47, R48, R52, R53: the end of a kick, by the coil's class. -/
def Obligations.KickExpiry : Prop :=
  ∀ (s : State) (c : CoilNo), s.coils[c].state = .kick → timerReached s.coils[c].kickTimer = true →
    Yields (exec (.kickTimerExpiry c) s) fun t =>
      let cfg := s.settings.coils[c]
      let holding (q : Nat) : CoilChannel := { s.coils[c] with
        state := .hold, kickTimer := none, restTimer := none, offTimer := none, duty := some q, pwmPhase := 0
        driven := q, holdTimer := if cfg.holdLimit = 0 then none else some (startTimer (sec cfg.holdLimit)) }
      (cfg.cls = .pulse → WentToRest c s.coils[c] (s.sched.committed - cfg.draw) s t) ∧
      (cfg.cls = .latch → t = channelMoved c (holding cfg.duty)
        (s.sched.committed + (cfg.draw * cfg.duty + 15) / 16 - cfg.draw) s) ∧
      (cfg.cls = .flipper → t = channelMoved c
        (holding (smallestDuty cfg.duty s.thermal.levels[c] s.rail.state)) s.sched.committed s)

/-- R47, R49, R54, R55: the hold limit of a LATCH and of a FLIPPER, and the end of a rest, with the quick re-flip. -/
def Obligations.HoldAndRestExpiry : Prop :=
  ∀ (s : State) (c : CoilNo) (n : SwitchNo),
    (s.coils[c].state = .hold → timerReached s.coils[c].holdTimer = true →
      Yields (exec (.holdLimitExpiry c) s) fun t =>
        (s.settings.coils[c].cls = .latch → WentToRest c s.coils[c] (s.sched.committed -
          (s.settings.coils[c].draw * s.settings.coils[c].duty + 15) / 16) s t) ∧
        (s.settings.coils[c].cls = .flipper → s.settings.coils[c].holdSource = n.val →
          WentToRest c { s.coils[c] with needsRelease := true } s.sched.committed s t)) ∧
    (s.coils[c].state = .rest → timerReached s.coils[c].restTimer = true →
      Yields (exec (.restTimerExpiry c) s) fun t =>
        let idle : CoilChannel := { s.coils[c] with state := .idle, kickTimer := none, holdTimer := none
                                                    restTimer := none, duty := none, pwmPhase := 0, driven := 0 }
        let toIdle : Prop := t = scanOwed { s with coils := s.coils.set c idle }
        let reflips : Prop := s.switches.records[n].level = .closed ∧ s.coils[c].needsRelease = false ∧
          MayPress s
        (s.settings.coils[c].cls ≠ .flipper → toIdle) ∧
        (s.settings.coils[c].cls = .flipper → s.settings.coils[c].holdSource = n.val →
          (reflips → t = channelMoved c (kickedFor s.coils[c] (if s.thermal.levels[c] = .hot
            then max 1 (s.settings.coils[c].kickTime / 2) else s.settings.coils[c].kickTime))
            s.sched.committed s) ∧
          (¬reflips → toIdle)))

/-- What a report of fault kind `k` of channel `c` does outside the channel, with D_own become `n` (R64, R15, R156). -/
def FaultReported (c : CoilNo) (k : FaultKind) (n : Nat) (s t : State) : Prop :=
  let has : Bool := (entryOf s c).isSome
  let q := s.sched.withCommitted n
  t.sched = (if has then withoutEntry c q else q) ∧
  t.bus = markedIf (decide (n ≠ s.sched.committed) || (has && announced c s.sched)) s ∧
  t.service = { events := s.service.events ||| 8#16, raised := s.service.raised ||| 8#16
                counters := if has then counted 14 s.service.counters else s.service.counters } ∧
  (∀ d : CoilNo, d ≠ c → t.faultLine.kinds[d] = s.faultLine.kinds[d]) ∧
  t.faultLine.kinds[c] =
    { short := s.faultLine.kinds[c].short || (decide (k = .short) && s.settings.causeMask.short)
      stuck := s.faultLine.kinds[c].stuck || (decide (k = .stuck) && s.settings.causeMask.stuck)
      opened := s.faultLine.kinds[c].opened || (decide (k = .opened) && s.settings.causeMask.opened) } ∧
  t.faultLine = { s.faultLine with kinds := t.faultLine.kinds } ∧
  Framed [.sched, .bus, .service, .faultLine, .coils] s t

/-- The channel record of an entry into FAULT of kind `k`, its off-current timer `off`. -/
def faulted (ch : CoilChannel) (k : FaultKind) (off : Timer) : CoilChannel :=
  { ch with state := .fault, faultKind := some k, kickTimer := none, holdTimer := none, restTimer := none
            duty := none, pwmPhase := 0, driven := 0, offTimer := off }

/-- D_own without what channel `c` adds to it (Table 2-2). -/
def committedWithout (c : CoilNo) (s : State) : Nat := s.sched.committed - drawOf s.settings.coils[c] s.coils[c]

/-- R61, R62, R64: FAULT OPEN at 2 ms of a kick with no current seen, and FAULT SHORT at an OVER reading.  That the
off-current timer of a channel whose output was off already goes on, or starts, at the entry to FAULT SHORT is the
model's reading (log entry 6). -/
def Obligations.OpenAndShortFaults : Prop :=
  ∀ (s : State) (c : CoilNo) (w : Countup),
    (s.coils[c].state = .kick → s.coils[c].kickTimer = some w → ms 2 ≤ w.elapsed →
      s.coils[c].currentSeen = false → senseJudged s.link.state = true →
      Yields (exec (.kickOpenCheck c) s) fun t =>
        t.coils = s.coils.set c (faulted s.coils[c] .opened
          (if s.pins.sense[c] = .none then none else some (startTimer (ms 5)))) ∧
        FaultReported c .opened (committedWithout c s) s t) ∧
    (senseJudged s.link.state = true → s.coils[c].state ≠ .fault →
      Yields (exec (.senseReadingChange c .over) s) fun t =>
        t.coils[c].state = .fault ∧ t.coils[c].faultKind = some .short ∧ t.coils[c].kickTimer = none ∧
        t.coils[c].holdTimer = none ∧ t.coils[c].restTimer = none ∧ t.coils[c].duty = none ∧
        t.coils[c].offTimer = (if commandedOn s.coils[c].state = true ∨ s.coils[c].offTimer = none
          then some (startTimer (ms 5)) else s.coils[c].offTimer) ∧
        (∀ d : CoilNo, d ≠ c → t.coils[d] = s.coils[d]) ∧
        FaultReported c .short (committedWithout c s)
          { s with pins := { s.pins with sense := s.pins.sense.set c .over } } t)

/-- R60, R61, R63, R64: a sense reading that gives no SHORT sets the current-seen mark in KICK, and starts or stops the
off-current timer while the output is commanded off; in OFFLINE and HELD it has no effect on the channel.  At 5 ms that
timer gives FAULT STUCK from any state, a change of kind to STUCK in FAULT, and nothing but a new start of the timer in
FAULT STUCK.  That the timer starts at a reading of current in FAULT too, and goes on from a state before it, is the
model's reading (log entry 6). -/
def Obligations.SenseAndStuckFault : Prop :=
  ∀ (s : State) (c : CoilNo) (r : Sense),
    (senseJudged s.link.state = false → Yields (exec (.senseReadingChange c r) s) fun t =>
      t = { s with pins := { s.pins with sense := s.pins.sense.set c r } }) ∧
    (senseJudged s.link.state = true → r ≠ .over ∨ s.coils[c].state = .fault →
      Yields (exec (.senseReadingChange c r) s) fun t =>
        let ch := s.coils[c]
        let ch' := if commandedOn ch.state then
            { ch with currentSeen := ch.currentSeen || (decide (ch.state = .kick) && decide (r ≠ .none)) }
          else if r = .none then { ch with offTimer := none }
          else if ch.offTimer = none then { ch with offTimer := some (startTimer (ms 5)) } else ch
        t = { s with pins := { s.pins with sense := s.pins.sense.set c r }, coils := s.coils.set c ch' }) ∧
    (timerReached s.coils[c].offTimer = true → senseJudged s.link.state = true →
      Yields (exec (.offCurrentTimerExpiry c) s) fun t =>
        (s.coils[c].state ≠ .fault →
          t.coils = s.coils.set c (faulted s.coils[c] .stuck (some (startTimer (ms 5)))) ∧
          FaultReported c .stuck (committedWithout c s) s t) ∧
        (s.coils[c].state = .fault → s.coils[c].faultKind ≠ some .stuck →
          t.coils = s.coils.set c
            { s.coils[c] with faultKind := some .stuck, offTimer := some (startTimer (ms 5)) } ∧
          FaultReported c .stuck s.sched.committed s t) ∧
        (s.coils[c].state = .fault → s.coils[c].faultKind = some .stuck →
          t.coils = s.coils.set c { s.coils[c] with offTimer := some (startTimer (ms 5)) } ∧ Framed [.coils] s t))

/-! ### Heat -/

/-- T of channel `c` after one interval (R70, R71): the loss, then the gain by the state and duty at the expiry. -/
def heatNext (c : CoilNo) (s : State) : Nat :=
  let cfg := s.settings.coils[c]
  let T := s.retained.heat[c]
  let kept := if T = 0 then 0 else T - (T / 2 ^ cfg.shift + 1)
  let gain := match s.coils[c].state, s.coils[c].duty with
    | .kick, _ => cfg.heatRate
    | .hold, some q => cfg.heatRate * q / 16
    | _, _ => 0
  min 65535 (kept + gain)

/-- R72: channel `c` enters LOCKOUT at this interval: its new T is at or above trip, or at the first interval the T
that it has kept (R66, R74, R79). -/
abbrev LocksOut (c : CoilNo) (s : State) : Prop :=
  s.settings.coils[c].cls ≠ .flipper ∧
  (s.settings.coils[c].trip ≤ heatNext c s ∨
    (s.thermal.firstInterval = true ∧ s.settings.coils[c].trip ≤ s.retained.heat[c])) ∧
  s.coils[c].state ≠ .lockout ∧ s.coils[c].state ≠ .fault

/-- R69 to R73, R76: one interval of the thermal unit, for each of the sixteen channels independently: heat and level,
the entries to LOCKOUT with their queue entries, counts, draws and marks, the returns to IDLE, and the new duties of
FLIPPER channels in HOLD; at the first interval a kept T at or above trip gives LOCKOUT (R66, R74, R79).  That the
off-current timer goes on over an entry from IDLE or REST is the model's reading (log entry 6), and so is that the first
cooling does not prevent that first entry (log entry 25). -/
def Obligations.ThermalInterval : Prop :=
  ∀ (s : State), thermalRuns s.link.state = true → timerReached s.thermal.interval = true →
    Yields (exec .thermalIntervalExpiry s) fun t =>
      let freed (c : CoilNo) : Prop :=
        s.coils[c].state = .lockout ∧ heatNext c s ≤ s.settings.coils[c].trip / 2
      let removed : List CoilNo := allCoils.filter fun c => decide (LocksOut c s) && (entryOf s c).isSome
      let lost : Nat := (allCoils.map fun c =>
        if LocksOut c s then drawOf s.settings.coils[c] s.coils[c] else 0).sum
      (∀ c : CoilNo, t.retained.heat[c] = heatNext c s ∧
        t.thermal.levels[c] = (if s.settings.coils[c].trip ≤ heatNext c s then .hot
          else if s.settings.coils[c].trip - s.settings.coils[c].trip / 4 ≤ heatNext c s then .warm
          else .normal) ∧
        (LocksOut c s → t.coils[c] = quiet s.coils[c] .lockout (if commandedOn s.coils[c].state then
            (if s.pins.sense[c] = .none then none else some (startTimer (ms 5))) else s.coils[c].offTimer)) ∧
        (freed c → t.coils[c] = quiet s.coils[c] .idle s.coils[c].offTimer) ∧
        (¬LocksOut c s → ¬freed c → t.coils[c] = { s.coils[c] with
          duty := if s.settings.coils[c].cls = .flipper ∧ s.coils[c].state = .hold ∧
              t.thermal.levels[c] ≠ s.thermal.levels[c]
            then some (smallestDuty s.settings.coils[c].duty t.thermal.levels[c] s.rail.state)
            else s.coils[c].duty })) ∧
      t.retained = { s.retained with heat := t.retained.heat } ∧
      t.thermal = { levels := t.thermal.levels, interval := some (startTimer (ms 1)), firstInterval := false } ∧
      t.sched.committed = s.sched.committed - lost ∧
      t.sched.queue = (s.sched.queue.filter fun e => decide (¬LocksOut e.coil s)) ∧
      t.sched.announce = (if removed.any fun c => decide (s.sched.announce.map Announce.coil = some c) then none
        else s.sched.announce) ∧
      (s.sched.scanDue = true ∨ removed ≠ [] ∨ t.sched.committed ≠ s.sched.committed ∨ (∃ c : CoilNo, freed c) →
        t.sched.scanDue = true) ∧
      t.bus = markedIf (decide (t.sched.committed ≠ s.sched.committed) ||
        removed.any fun c => announced c s.sched) s ∧
      t.service.counters = (if removed = [] then s.service.counters
        else s.service.counters.set 9 (min (s.service.counters[9] + removed.length) 65535)) ∧
      t.service.events = (if ∃ c : CoilNo, LocksOut c s then s.service.events ||| 4#16 else s.service.events) ∧
      t.service.raised = (if ∃ c : CoilNo, LocksOut c s then s.service.raised ||| 4#16 else s.service.raised) ∧
      Framed [.retained, .thermal, .coils, .sched, .bus, .service] s t

/-! ### Lamps -/

/-- R107, R108, R110, R111: a half expiry of a flash: the flash record, and the drive stage and the lamp start queue,
which follow the new demand. -/
def Obligations.FlashHalves : Prop :=
  ∀ (s : State) (n : LampNo) (f : Flash), s.lamps.lamps[n].mode = .flash → s.lamps.lamps[n].flash = some f →
    f.timer.limit ≤ f.timer.elapsed →
    Yields (exec (.lampHalfExpiry n) s) fun t =>
      let ch := t.lamps.lamps[n]
      (f.halfLit = true → ch.mode = .flash ∧ ch.flash =
        some { f with halfLit := false, timer := startTimer (cs f.halfPeriod) }) ∧
      (f.halfLit = false → f.cycles = none → ch.mode = .flash ∧ ch.flash =
        some { f with halfLit := true, timer := startTimer (cs f.halfPeriod) }) ∧
      (∀ k, f.halfLit = false → f.cycles = some k → 2 ≤ k → ch.mode = .flash ∧ ch.flash =
        some { f with cycles := some (k - 1), halfLit := true, timer := startTimer (cs f.halfPeriod) }) ∧
      (f.halfLit = false → f.cycles = some 1 →
        ch.mode = (if f.finalOn then .lit else .dark) ∧ ch.flash = none) ∧
      t.lamps = lampsGiven s.settings.lamps [n] (fun _ => (ch.mode, ch.flash)) s.lamps ∧
      (∀ m : LampNo, m ≠ n → t.lamps.lamps[m] = s.lamps.lamps[m]) ∧
      t.lamps.phase = s.lamps.phase ∧ Framed [.lamps] s t

/-- R112: a lamp phase expiry starts the warm-up of the first four lamps of the queue and of no other; a warm-up ends
with the lamp LIT. -/
def Obligations.LampPhaseAndWarmUp : Prop :=
  ∀ (s : State) (n : LampNo),
    (timerReached s.lamps.phase = true → Yields (exec .lampPhaseExpiry s) fun t =>
      (∀ m : LampNo, t.lamps.lamps[m] = if m ∈ s.lamps.queue.take 4
        then { s.lamps.lamps[m] with stage := .warming, warmUp := some (startTimer (ms 20)) }
        else s.lamps.lamps[m]) ∧
      t.lamps = { s.lamps with lamps := t.lamps.lamps, queue := s.lamps.queue.drop 4
                               phase := some (startTimer (ms 5)) } ∧
      Framed [.lamps] s t) ∧
    (s.lamps.lamps[n].stage = .warming → timerReached s.lamps.lamps[n].warmUp = true →
      Yields (exec (.warmUpExpiry n) s) fun t =>
        let lit := { s.lamps.lamps[n] with stage := .lit, warmUp := none }
        t.lamps = { s.lamps with lamps := s.lamps.lamps.set n lit } ∧ Framed [.lamps] s t)

/-- Table 7-3: the logical mode and flash record that a mode command gives a lamp. -/
def commanded (cmd : ModeCommand) (ch : LampChannel) : LampMode × Option Flash :=
  match cmd with
  | .off => (.dark, none)
  | .on => (.lit, none)
  | .toggle => (if ch.mode = .dark then .lit else .dark, none)
  | .flash h n f => (.flash, some { halfPeriod := h, cycles := if n = 0 then none else some n, finalOn := f,
                                    halfLit := true, timer := startTimer (cs h) })

/-- R106, R108 to R111: one mode command: the logical mode, and the drive stage that follows the demand. -/
def Obligations.ModeCommands : Prop :=
  ∀ (s : State) (n : LampNo) (cmd : ModeCommand),
    let t := lampCommand n cmd s
    let old := s.lamps.lamps[n]
    let new := t.lamps.lamps[n]
    (new.mode, new.flash) = commanded cmd old ∧
    (s.settings.lamps[n].incandescent = false → new.stage = (if demandLit new then .lit else .dark) ∧
      t.lamps.queue = s.lamps.queue) ∧
    (s.settings.lamps[n].incandescent = true →
      (demandLit new = false → new.stage = .dark ∧ new.warmUp = none ∧
        t.lamps.queue = s.lamps.queue.filter fun m => m ≠ n) ∧
      (demandLit new = true → old.stage = .dark → new.stage = .waiting ∧
        t.lamps.queue = s.lamps.queue ++ [n]) ∧
      (demandLit new = true → old.stage ≠ .dark → new.stage = old.stage ∧ t.lamps.queue = s.lamps.queue)) ∧
    (∀ m : LampNo, m ≠ n → t.lamps.lamps[m] = s.lamps.lamps[m]) ∧
    t.lamps.phase = s.lamps.phase ∧ Framed [.lamps] s t

/-- The mode command of mode code `mode` for a lamp whose default half-period is `default` (R113, Table 8-6). -/
def commandOfCode (mode half count : Nat) (finalOn : Bool) (default : Nat) : ModeCommand :=
  if mode = 0 then .off else if mode = 1 then .on
  else if mode = 2 then .flash (if half = 0 then default else half) count finalOn else .toggle

/-- R113: a LAMP frame commands the lamp it names, or every lamp, in order of number, for 255, with what the commands
do to the drive stages and the lamp start queue (R108 to R111); in OFFLINE and HELD, and where it names no lamp or no
mode, it is counted as ignored and changes no lamp. -/
def Obligations.LampFrameTaken : Prop :=
  ∀ (s : State) (rx : List Byte) (f : Frame), goodFrameFor .lamp rx s = some f →
    Yields (exec (.lampFrame rx) s) fun t =>
      let lamp := byteAt f.payload 0
      let b := byteAt f.payload 1
      let cmd (n : LampNo) : ModeCommand := commandOfCode (b % 8) (byteAt f.payload 2) (b / 16)
        (decide (b / 8 % 2 = 1)) s.settings.lamps[n].halfPeriod
      let taken : Prop := s.link.state ≠ .offline ∧ s.link.state ≠ .held ∧ b % 8 < 4
      (¬taken ∨ (24 ≤ lamp ∧ lamp ≠ 255) → CountedOnly 4 (takeGood s) t) ∧
      (∀ n : LampNo, taken → lamp = n.val → t = lampCommand n (cmd n) (takeGood s)) ∧
      (taken → lamp = 255 → t = { takeGood s with
        lamps := lampsGiven s.settings.lamps allLamps (fun n => commanded (cmd n) s.lamps.lamps[n]) s.lamps })

/-! ### The rail and the table fault line -/

/-- What a change of rail state hands on (R155, R56, R58, R53, R37, R39), to the channels, the fire scheduler and queue,
the bus and the service unit, and the monitor's timers at the entry (R152 to
R154). -/
def RailChanged (new : RailState) (s t : State) : Prop :=
  let old := s.rail.state
  let v := s.pins.rail
  let drops : Prop := new = .down ∧ (old = .up ∨ old = .sag)
  let sags : Prop := new = .sag ∧ old = .up
  t.rail = { state := new
             settle := if new = .settling then some (startTimer (ms 200)) else none
             sagQualify := if new = .up ∧ v < s.settings.vSag ∧ s.settings.vOn ≤ v
               then some (startTimer (ms 2)) else none
             sagClear := if new = .sag ∧ s.settings.vSag ≤ v then some (startTimer (ms 20)) else none } ∧
  (∀ c : CoilNo, t.coils[c] = if new = .down then externallyEnded s.coils[c] s.pins.sense[c]
    else { s.coils[c] with
      duty := if (old = .sag ↔ new ≠ .sag) ∧ s.settings.coils[c].cls = .flipper ∧ s.coils[c].state = .hold
        then some (smallestDuty s.settings.coils[c].duty s.thermal.levels[c] new) else s.coils[c].duty }) ∧
  t.sched = { committed := if new = .down then committedEnded s else s.sched.committed
              queue := if old = .up ∧ new ≠ .up then queueWithdrawn s else s.sched.queue
              announce := if old = .up ∧ new ≠ .up then none else s.sched.announce
              scanDue := true } ∧
  t.bus = markedIf (decide (¬(old = .up ↔ new = .up)) ||
    decide (new = .down ∧ committedEnded s ≠ s.sched.committed)) s ∧
  t.service.raised = (if drops then s.service.raised ||| 0x400#16
    else if sags then s.service.raised ||| 0x800#16 else s.service.raised) ∧
  t.service.counters = (if drops then counted 12 s.service.counters
    else if sags then counted 13 s.service.counters else s.service.counters) ∧
  t.service.events = (if drops then s.service.events ||| 0x400#16
    else if sags then s.service.events ||| 0x800#16 else s.service.events) ∧
  Framed [.rail, .coils, .sched, .bus, .service] s t

/-- A timer that goes on, or starts from 0. -/
def goesOn (t : Timer) (limit : Nat) : Timer := if t = none then some (startTimer limit) else t

/-- R151 to R155: a RAILV reading, in each rail state; the settle, sag qualify and sag clear timers at their
times. -/
def Obligations.RailMonitored : Prop :=
  ∀ (s : State) (b : Byte),
    (s.rail.state = .settling → timerReached s.rail.settle = true →
      Yields (exec .settleTimerExpiry s) (RailChanged .up s)) ∧
    (s.rail.state = .up → timerReached s.rail.sagQualify = true →
      Yields (exec .sagQualifyExpiry s) (RailChanged .sag s)) ∧
    (s.rail.state = .sag → timerReached s.rail.sagClear = true →
      Yields (exec .sagClearExpiry s) (RailChanged .up s)) ∧
    Yields (exec (.railReadingChange b) s) fun t =>
      let v := b.toNat
      let u : State := { s with pins := { s.pins with rail := v } }
      let judged : Prop := s.link.state ≠ .offline ∧ s.link.state ≠ .held
      (¬judged → t = u) ∧
      (judged → s.rail.state = .down →
        (v < s.settings.vOn → t = u) ∧ (s.settings.vOn ≤ v → RailChanged .settling u t)) ∧
      (judged → s.rail.state = .settling →
        (v < s.settings.vOn → RailChanged .down u t) ∧ (s.settings.vOn ≤ v → t = u)) ∧
      (judged → s.rail.state = .up →
        (v < s.settings.vOn → RailChanged .down u t) ∧
        (s.settings.vOn ≤ v → t = { u with rail := { s.rail with
          sagQualify := if v < s.settings.vSag then goesOn s.rail.sagQualify (ms 2) else none } })) ∧
      (judged → s.rail.state = .sag →
        (v < s.settings.vOn → RailChanged .down u t) ∧
        (s.settings.vOn ≤ v → t = { u with rail := { s.rail with
          sagClear := if s.settings.vSag ≤ v then goesOn s.rail.sagClear (ms 20) else none } }))

/-- R157 to R159, R161: TFAULT seen asserted, seen released, and the release settle at 100 ms; when the station asserts
the line itself.  R172: when the status lamp is lit. -/
def Obligations.FaultLineAndSafe : Prop :=
  ∀ (s : State),
    (faultLineDriven s = true ↔ s.faultLine.duplicate = true ∨ ∃ k ∈ s.faultLine.kinds.toList,
      k.short = true ∨ k.stuck = true ∨ k.opened = true) ∧
    (statusLamp s = true ↔ s.link.state = .offline ∨ s.link.state = .held ∨
      (s.settings.statusMask.notArmed = true ∧ s.link.state ≠ .armed) ∨
      (s.settings.statusMask.railNotUp = true ∧ s.rail.state ≠ .up) ∨
      (s.settings.statusMask.safe = true ∧ s.faultLine.drive = .safe) ∨
      (s.settings.statusMask.lockout = true ∧ ∃ c : CoilNo, s.coils[c].state = .lockout) ∨
      (s.settings.statusMask.fault = true ∧ ∃ c : CoilNo, s.coils[c].state = .fault) ∨
      (s.settings.statusMask.degraded = true ∧ s.link.degraded = true)) ∧
    Yields (exec .faultLineAsserted s) (fun t =>
      t.pins = { s.pins with tfaultLow := true } ∧
      (s.faultLine.watching = false → Framed [.pins] s t) ∧
      (s.faultLine.watching = true → s.faultLine.drive = .safe →
        t.faultLine = { s.faultLine with release := none } ∧ Framed [.pins, .faultLine] s t) ∧
      (s.faultLine.watching = true → s.faultLine.drive = .normal →
        t.faultLine = { s.faultLine with drive := .safe, release := none } ∧
        (∀ c : CoilNo, t.coils[c] = externallyEnded s.coils[c] s.pins.sense[c]) ∧
        t.sched = { committed := committedEnded s, queue := [], announce := none, scanDue := true } ∧
        t.bus = markedIf true s ∧
        t.service = { s.service with events := s.service.events ||| 0x1000#16
                                     raised := s.service.raised ||| 0x1000#16 } ∧
        Framed [.pins, .faultLine, .coils, .sched, .bus, .service] s t)) ∧
    (faultLineDriven s = false → s.pins.tfaultLow = true → Yields (exec .faultLineReleased s) fun t =>
      t = { s with
        pins := { s.pins with tfaultLow := false }
        faultLine := { s.faultLine with release :=
          if s.faultLine.watching = true ∧ s.faultLine.drive = .safe then some (startTimer (ms 100))
          else s.faultLine.release } }) ∧
    (s.faultLine.drive = .safe → timerReached s.faultLine.release = true →
      Yields (exec .releaseSettleExpiry s) fun t =>
        t = { s with
          faultLine := { s.faultLine with drive := .normal, release := none }
          sched := { s.sched with scanDue := true }
          bus := markedIf true s })

/-! ### Receiving -/

/-- R118, R122, R125, R130, R141, R148: when a reception ends, when a fragment does, and which bytes are a complete
frame; start bits, also those that meet a fragment or an attempt of the station's own (log entry 22), fragments, bad
frames, what every good frame does before the filter, and frames that the filter discards.  A window that is full ends
before a further frame is counted, since its end is a step of its own (log entry 9). -/
def Obligations.ReceptionsClassed : Prop :=
  ∀ (s : State) (rx : List Byte) (f : Frame),
    (receptionEnds s = true ↔ s.bus.receiver = .receiving ∧ s.bus.wire = none ∧ s.bus.byteLeft = 0 ∧
      s.bus.idle < bits 12) ∧
    (fragmentDue s = true ↔ (s.bus.receiver = .receiving ∨ s.bus.receiver = .discarding) ∧ s.bus.wire = none ∧
      s.bus.byteLeft = 0 ∧ bits 12 ≤ s.bus.idle) ∧
    (classify rx ≠ .incomplete ↔ byteAt rx 0 = 0xC3 ∧ byteAt rx 3 % 16 ≤ 12 ∧ rx.length = byteAt rx 3 % 16 + 6) ∧
    (s.bus.started = false → Yields (exec .startBitOnLine s) fun t => t = s) ∧
    (s.bus.started = true → fragmentDue s = true → Yields (exec .startBitOnLine s) fun t =>
      t = { s with bus := { s.bus with byteLeft := bits 10, idle := 0, receiver := .receiving }
                   service := { s.service with counters := counted 2 s.service.counters } }) ∧
    (s.bus.started = true → s.bus.wire = none → fragmentDue s = false →
      Yields (exec .startBitOnLine s) fun t =>
        t = { s with bus := { s.bus with
          byteLeft := bits 10, idle := 0
          receiver := if s.bus.byteLeft = 0 ∧ bits 12 ≤ s.bus.idle then .receiving
            else if s.bus.receiver = .complete then .discarding else s.bus.receiver } }) ∧
    (∀ w, s.bus.started = true → s.bus.wire = some w →
      Yields (exec .startBitOnLine s) fun t =>
        let inByte : Nat := bits 10 * (w.timer.elapsed / bits 10 + 1)
        t = { s with bus := { s.bus with
          byteLeft := bits 10, idle := 0
          wire := some { w with clashAt :=
            if w.clashAt = none ∧ w.timer.elapsed < w.timer.limit then some inByte else w.clashAt } } }) ∧
    (fragmentDue s = true → Yields (exec .fragment s) fun t =>
      t = { s with bus := { s.bus with receiver := .between }
                   service := { s.service with counters := counted 2 s.service.counters } }) ∧
    (receptionEnds s = true → classify rx = .bad → s.link.windowFrames < 256 ∨ qualityRuns s.link.state = false →
      Yields (exec (.badFrame rx) s) fun t =>
        let runs : Prop := s.link.state ≠ .offline ∧ s.link.state ≠ .held
        t = { s with
          bus := { s.bus with receiver := .complete }
          service := { s.service with counters := counted 1 s.service.counters }
          link := { s.link with windowFrames := s.link.windowFrames + if runs then 1 else 0
                                windowBad := s.link.windowBad + if runs then 1 else 0 } }) ∧
    (s.link.windowFrames < 256 ∨ qualityRuns s.link.state = false → takeGood s = { s with
      bus := { s.bus with receiver := .complete }
      service := { s.service with counters := counted 0 s.service.counters }
      link := { s.link with
        silence := if s.link.state = .announced ∨ s.link.state = .armed
          then some (startTimer (cs (8 * s.settings.beat))) else s.link.silence
        windowFrames := if s.link.state = .offline ∨ s.link.state = .held then s.link.windowFrames
          else s.link.windowFrames + 1 } }) ∧
    (256 ≤ s.link.windowFrames → qualityRuns s.link.state = true →
      Yields (exec .qualityWindowEnd s) fun u => u.link.windowFrames = 0 ∧ takeGood s = takeGood u ∧
        (receptionEnds s = true → classify rx = .bad → exec (.badFrame rx) s = exec (.badFrame rx) u)) ∧
    (goodFrameFor .ignored rx s = some f →
      Yields (exec (.filteredFrame rx) s) (CountedOnly 4 (takeGood s)))

/-- R123, R124, Table 8-9: the receive filter, in order, for a source in 0–31. -/
def Obligations.ReceiveFilter : Prop :=
  ∀ (own : Nat) (l : LinkState) (f : Frame), f.src ≤ 31 →
    (f.src = 0 → destination own l f = .ignored) ∧
    (f.src ≠ 0 → f.src = own → destination own l f = .ownNumber) ∧
    (f.src ≠ 0 → f.src ≠ own →
      (f.dst ≠ 0 ∧ f.dst ≠ own ∨ f.kind = 0 ∨ 7 ≤ f.kind → destination own l f = .ignored) ∧
      (f.dst = 0 ∨ f.dst = own → 1 ≤ f.kind → f.kind ≤ 6 →
        (f.kind = 1 → destination own l f = if f.payload.length = 6 ∧ f.dst = 0 ∧ f.src ≠ 31 ∧
          2 ≤ byteAt f.payload 3 ∧ byteAt f.payload 3 ≤ 25 ∧ l ≠ .offline then .draw else .ignored) ∧
        (f.kind = 2 → destination own l f = if f.payload.length = 2 ∧ f.dst = 0 ∧ byteAt f.payload 0 ≤ 31 ∧
          l ≠ .offline then .switch else .ignored) ∧
        (f.kind = 3 → destination own l f = if f.payload.length = 2 ∧ f.dst ≠ 0 ∧ byteAt f.payload 0 ≤ 15 ∧
          byteAt f.payload 1 % 4 ≠ 3 ∧ l ≠ .offline then .fire else .ignored) ∧
        (f.kind = 4 → destination own l f = if f.payload.length = 3 then .lamp else .ignored) ∧
        (f.kind = 5 → destination own l f = if 1 ≤ f.payload.length ∧ f.payload.length ≤ 3 ∧ f.dst ≠ 0 ∧
          f.src = 31 ∧ l ≠ .offline then .service (byteAt f.payload 0) else .ignored) ∧
        (f.kind = 6 → destination own l f = .ignored)))

/-- R138, R142, R143, R144: a good frame with the own number as its source, in each link state; an entry to DUPLICATE
flushes the fire queue, ends the PULSE and LATCH channels and cuts the transmit queue back (R16, R57, R135).  That the
abandon count then stands is the model's reading (log entry 26). -/
def Obligations.OwnNumberFrames : Prop :=
  ∀ (s : State) (rx : List Byte) (f : Frame), goodFrameFor .ownNumber rx s = some f →
    Yields (exec (.ownNumberFrame rx) s) fun t =>
      let g := takeGood s
      t.service.events = g.service.events ||| 0x2000#16 ∧ t.service.raised = g.service.raised ||| 0x2000#16 ∧
      t.service.counters = g.service.counters ∧
      (s.link.state = .offline → t.link = { g.link with duplicateSeen := true } ∧
        Framed [.link, .service] g t) ∧
      (s.link.state = .held ∨ s.link.state = .duplicate → Framed [.service] g t) ∧
      (s.link.state = .listen ∨ s.link.state = .announced ∨ s.link.state = .armed →
        t.link = { g.link with state := .duplicate, listenWindow := none, announcedTimer := none
                               silence := none } ∧
        t.faultLine = { s.faultLine with
          duplicate := s.faultLine.duplicate || s.settings.causeMask.duplicate } ∧
        t.sched = { committed := committedEnded s, queue := [], announce := none, scanDue := true } ∧
        (∀ c : CoilNo, s.settings.coils[c].cls ≠ .flipper →
          t.coils[c] = externallyEnded s.coils[c] s.pins.sense[c]) ∧
        (∀ c : CoilNo, s.settings.coils[c].cls = .flipper → t.coils[c] = s.coils[c]) ∧
        t.bus = cutBack g.bus ∧
        Framed [.link, .service, .faultLine, .sched, .coils, .bus] g t)

/-- R145, R150, R143, R95, R96, R100: DRAW frames at the peer table; SWITCH frames at the remote edge memory, and then
in LISTEN, ANNOUNCED and ARMED the walk of the reflex table as an edge of their source, whose list is answered as
REMOTE_SWITCH requests. -/
def Obligations.PeerFramesTaken : Prop :=
  ∀ (s : State) (rx : List Byte) (f : Frame),
    (goodFrameFor .draw rx s = some f → Yields (exec (.drawFrame rx) s) fun t =>
      (s.link.state = .held → CountedOnly 4 (takeGood s) t) ∧
      (s.link.state ≠ .held →
        peerAt f.src t = some
          { station := f.src, stale := false, draw := byteAt f.payload 0, reserve := byteAt f.payload 1
            ceiling := byteAt f.payload 2, beat := byteAt f.payload 3, linkCode := byte (byteAt f.payload 4)
            flags := BitVec.ofNat 4 (byteAt f.payload 5)
            silence := startTimer (cs (20 * max s.settings.beat (byteAt f.payload 3))) } ∧
        (∀ n, n ≠ f.src → peerAt n t = peerAt n s) ∧ t.sched.scanDue = true ∧
        t.link = { (takeGood s).link with peers := t.link.peers } ∧ Framed [.link, .sched] (takeGood s) t)) ∧
    (goodFrameFor .switch rx s = some f → Yields (exec (.switchFrame rx) s) fun t =>
      let sw := byteAt f.payload 0
      let seq := byteAt f.payload 1 % 16
      let e : EdgeKind := if 128 ≤ byteAt f.payload 1 then .close else .opened
      let gap : Prop := ∃ r ∈ edgeRecordAt f.src sw s, ∃ q k, r.last = some (q, k) ∧
        ¬(seq = (q + 1) % 16 ∧ e ≠ k)
      let g := takeGood s
      (gap → t.service.counters[10] = min (s.service.counters[10] + 1) 65535 ∧
        t.service.events.getLsbD 6 = true) ∧
      (¬gap → t.service.counters[10] = s.service.counters[10]) ∧
      t.link.memory = (s.link.memory.map fun r =>
        if r.station = f.src ∧ r.switch = sw then { r with last := some (seq, e) } else r) ∧
      (∃ u : State,
        (s.link.state = .listen ∨ s.link.state = .announced ∨ s.link.state = .armed →
          t = answerList .remoteSwitch (walk f.src sw e u).2 (walk f.src sw e u).1) ∧
        (s.link.state = .offline ∨ s.link.state = .duplicate ∨ s.link.state = .held → t = u) ∧
        (gap → u.service = { events := g.service.events ||| 0x40#16, raised := g.service.raised ||| 0x40#16
                             counters := counted 10 g.service.counters }) ∧
        (¬gap → u.service = g.service) ∧
        u.link = { g.link with memory := t.link.memory } ∧ Framed [.link, .service] g u) ∧
      Framed [.link, .bus, .service, .lamps, .sched, .coils] s t)

/-! ### Service requests -/

/-- The pending reply `r` stands in the single SVC_REPLY entry of the transmit queue: in place of the one there, or at
the tail (R126). -/
def Replied (r : Reply) (s t : State) : Prop :=
  let replaced := s.bus.general.map fun g => if isReply g then .reply r else g
  let queue := if s.bus.general.any isReply then replaced else s.bus.general ++ [.reply r]
  t = { s with bus := { s.bus with general := queue } }

/-- R126, R168: a request that finds room, having done `done`, leaves reply `r`; one that does not is counted as
ignored and does nothing. -/
def Answered (done : State → State) (r : Reply) (s t : State) : Prop :=
  (requestTaken s.bus = true → Replied r (done (takeGood s)) t) ∧
  (requestTaken s.bus = false → CountedOnly 4 (takeGood s) t)

/-- A reply of status OK with sampled data. -/
def okWith (code : Nat) (d : ReplyData) : Reply := { code := code, status := 0, data := d, restart := false }

/-- A reply without data: RANGE is 1, REFUSED 2, UNKNOWN 3 (Table 8-8). -/
def bare (code status : Nat) : Reply := { code := code, status := status, data := .fixed [], restart := false }

/-- R126: when a request is taken.  R168, Table 11-4: the requests that act on nothing: the reply each leaves, RANGE for
an argument that is missing or out of range, UNKNOWN for a code that is not in the table.  That RANGE and UNKNOWN
replies carry no data is the model's reading (log entry 12). -/
def Obligations.ReadRequestsAnswered : Prop :=
  ∀ (s : State) (rx : List Byte) (f : Frame) (code : Nat),
    (requestTaken s.bus = true ↔
      if ∃ g ∈ s.bus.general, isReply g = true then
        ¬((∃ r, s.bus.series = some r ∧ r.kind = .reply) ∧ s.bus.wire ≠ none)
      else s.bus.general.length < 15) ∧
    (goodFrameFor (.service code) rx s = some f →
    let has : Prop := 2 ≤ f.payload.length
    let a := byteAt f.payload 1
    (code = 1 → Yields (exec (.status rx) s) (Answered id (okWith 1 .status) s)) ∧
    (code = 2 → Yields (exec (.readEvents rx) s) (Answered id (okWith 2 .events) s)) ∧
    (code = 3 → Yields (exec (.readCounters rx) s) (Answered id
      (if has ∧ a ≤ 2 then okWith 3 (.counters a) else bare 3 1) s)) ∧
    (code = 4 → Yields (exec (.readPeer rx) s) (Answered id
      (if has ∧ 1 ≤ a ∧ a ≤ 30 then okWith 4 (.peer a) else bare 4 1) s)) ∧
    (code = 5 →
      (∀ c : CoilNo, has → a = c.val → Yields (exec (.readCoil rx) s) (Answered id (okWith 5 (.coil c)) s)) ∧
      (¬has ∨ 16 ≤ a → Yields (exec (.readCoil rx) s) (Answered id (bare 5 1) s))) ∧
    (code = 6 →
      (∀ n : SwitchNo, has → a = n.val →
        Yields (exec (.readSwitch rx) s) (Answered id (okWith 6 (.switch n)) s)) ∧
      (¬has ∨ 32 ≤ a → Yields (exec (.readSwitch rx) s) (Answered id (bare 6 1) s))) ∧
    (code = 10 → Yields (exec (.restart rx) s) (Answered id { bare 10 0 with restart := true } s)) ∧
    (code = 0 ∨ 11 ≤ code → Yields (exec (.svcUnknownRequest rx) s) (Answered id (bare code 3) s)))

/-- The code and the status of a TEST_PULSE outcome (R168, Table 11-4). -/
def pulseOutcome (a : Answer) : Nat × Nat :=
  match a with
  | .accepted => (0, 0)
  | .merged => (1, 0)
  | .refused => (2, 2)
  | .lockedOut => (3, 2)
  | .queueFull => (4, 2)
  | .cancelled => (0, 0)

/-- R168, R1, R114, R65, R160: the requests that act: TEST_PULSE, SET_LAMP and CLEAR_FAULT, with all that each leaves;
when a request is taken is stated with the requests that only answer.  That RANGE replies and a
REFUSED reply to SET_LAMP carry no data, and that a refused TEST_PULSE carries its outcome byte, is the model's reading
(log entry 12). -/
def Obligations.ActingRequestsAnswered : Prop :=
  ∀ (s : State) (rx : List Byte) (f : Frame) (c : CoilNo) (n : LampNo),
    let has (k : Nat) : Prop := k ≤ f.payload.length
    let a := byteAt f.payload 1
    let b := byteAt f.payload 2
    (goodFrameFor (.service 7) rx s = some f → Yields (exec (.testPulse rx) s) fun t =>
      (has 3 → a = c.val → b ≤ 15 →
        let r := request c .pulse (if b = 0 then 1 else b) .service (takeGood s)
        Answered (fun _ => r.1) { code := 7, status := (pulseOutcome r.2).2
                                  data := .fixed [byte (pulseOutcome r.2).1], restart := false } s t) ∧
      (¬has 3 ∨ 16 ≤ a ∨ 16 ≤ b → Answered id (bare 7 1) s t)) ∧
    (goodFrameFor (.service 8) rx s = some f → Yields (exec (.setLamp rx) s) fun t =>
      let cmd (m : LampNo) : ModeCommand := commandOfCode b 0 0 false s.settings.lamps[m].halfPeriod
      (¬has 3 ∨ (24 ≤ a ∧ a ≠ 255) ∨ 4 ≤ b → Answered id (bare 8 1) s t) ∧
      (has 3 → a < 24 ∨ a = 255 → b ≤ 3 → s.link.state = .held → Answered id (bare 8 2) s t) ∧
      (has 3 → a = n.val → b ≤ 3 → s.link.state ≠ .held →
        Answered (lampCommand n (cmd n)) (okWith 8 (.fixed [])) s t) ∧
      (has 3 → a = 255 → b ≤ 3 → s.link.state ≠ .held →
        Answered (fun u => { u with
          lamps := lampsGiven u.settings.lamps allLamps (fun m => commanded (cmd m) u.lamps.lamps[m]) u.lamps })
          (okWith 8 (.fixed [])) s t)) ∧
    (goodFrameFor (.service 9) rx s = some f → Yields (exec (.clearFault rx) s) fun t =>
      (¬has 2 ∨ (16 ≤ a ∧ a ≠ 255) → Answered id (bare 9 1) s t) ∧
      (has 2 → a = c.val ∨ a = 255 →
        let named (d : CoilNo) : Bool := decide (a = d.val ∨ a = 255)
        let clears (d : CoilNo) : Bool := named d && decide (s.coils[d].state = .fault)
        Answered (fun u => { u with
          coils := Vector.ofFn fun d => if clears d then
            { quiet u.coils[d] .idle (if u.pins.sense[d] = .none then none else some (startTimer (ms 5))) with
              faultKind := none } else u.coils[d]
          faultLine := { u.faultLine with
            kinds := Vector.ofFn fun d => if named d then KindSet.empty else u.faultLine.kinds[d] }
          sched := { u.sched with scanDue := u.sched.scanDue || allCoils.any clears } })
          (okWith 9 (.fixed [byte (allCoils.filter clears).length])) s t))

/-! ### Sending -/

/-- The bus with an attempt of frame `f` begun (R131); the receiver stands between receptions, because an idle gap has
passed (log entry 22). -/
def onWire (f : Frame) (b : Bus) : Bus :=
  { b with wire := some { frame := f, timer := startTimer (bits (10 * (f.payload.length + 6))), clashAt := none }
           idle := 0, receiver := .between }

/-- R128, R129: the beat, and the start of a series, the pending draw slot first. -/
def Obligations.BeatAndSeriesStart : Prop :=
  ∀ (s : State),
    (timerReached s.bus.beatTimer = true → Yields (exec .beatTimerExpiry s) fun t =>
      t = { s with bus := { markedIf true s with beatTimer := none } }) ∧
    (s.bus.series = none → s.bus.wire = none → s.link.state ≠ .offline → ownNumber s ≠ 0 →
      (s.bus.drawPending = true → s.link.state ≠ .duplicate → Yields (exec .txSeriesStart s) fun t =>
        t = { s with bus := { s.bus with series := some { kind := .draw, failed := 0, cut := false } } }) ∧
      (∀ g rest, s.bus.drawPending = false ∨ s.link.state = .duplicate → s.bus.general = g :: rest →
        Yields (exec .txSeriesStart s) fun t =>
          let kind : SeriesKind := if isReply g then .reply else .switch
          t = { s with bus := { s.bus with series := some { kind := kind, failed := 0, cut := false } } }))

/-- The DRAW frame that a station whose reported draw is `rep` sends (R39, R41, R127, Table 8-3). -/
def drawOfState (rep : Nat) (s : State) : Frame :=
  let held : Bool := decide (s.link.state = .held)
  { src := ownNumber s, dst := 0, kind := 1
    payload := [byte (if held then 0 else rep), byte (if held then 0 else s.settings.reserve)
      , byte (if held then 0 else s.settings.ceiling), byte (if held then 5 else s.settings.beat)
      , byte (linkCode s.link.state)
      , byte ((if s.faultLine.drive = .safe then 1 else 0) + (if held then 2 else 0) +
          (if s.link.degraded then 4 else 0) + (if s.rail.state = .up then 8 else 0))] }

/-- The place of a name in a list of names: its code. -/
def codeIn {α : Type} [DecidableEq α] (names : List α) (x : α) : Nat := names.idxOf x

/-- A flag at bit `b` of a byte. -/
def flagAt (b : Nat) (on : Bool) : Nat := if on then 2 ^ b else 0

/-- Table 11-4: the bytes of sampled reply data, as the state stands.  The wait is in whole milliseconds, rounded down
(log entry 24), and of an absent entry only bit 0 and the unnamed bits of the entry byte are stated (log entry 1). -/
def TableData (d : ReplyData) (s : State) (l : List Byte) : Prop :=
  match d with
  | .fixed data => l = data
  | .status => l =
    [byte (codeIn [.offline, .listen, .announced, .armed, .duplicate, .held] s.link.state),
     byte (codeIn [.down, .settling, .up, .sag] s.rail.state + flagAt 2 (decide (s.faultLine.drive = .safe)) +
       flagAt 3 s.link.degraded + flagAt 4 (decide (s.service.events ≠ 0))),
     byte s.sched.committed, byte s.settings.reserve, byte s.sched.queue.length,
     byte (codeIn [.powerOn, .supplyDip, .serviceRestart] s.retained.cause),
     byte (s.retained.dipCount / 256), byte s.retained.dipCount, byte s.reflex.setAside,
     byte (codeIn [.accepted, .readError, .format, .length, .check, .station, .capacity, .reserve, .holdSource,
       .coilDraw] (s.startUp.outcome.getD .accepted))]
  | .events => l = [byte (s.service.events.toNat / 256), byte s.service.events.toNat]
  | .counters g => g ≤ 2 → l = (List.range 5).flatMap fun i =>
      [byte (s.service.counters.toList.getD (5 * g + i) 0 / 256), byte (s.service.counters.toList.getD (5 * g + i) 0)]
  | .peer n =>
    (peerAt n s = none → l = [0]) ∧
    (∀ p, peerAt n s = some p → l = [if p.stale then 2 else 1, byte p.draw, byte p.reserve, byte p.ceiling,
      byte p.beat, p.linkCode, byte p.flags.toNat])
  | .coil c =>
    l.length = 9 ∧
    l.take 5 = [byte (codeIn [.idle, .kick, .hold, .rest, .lockout, .fault] s.coils[c].state),
      byte (codeIn [none, some .opened, some .short, some .stuck] s.coils[c].faultKind),
      byte (s.retained.heat[c] / 256), byte s.retained.heat[c],
      byte (codeIn [.normal, .warm, .hot] s.thermal.levels[c])] ∧
    (∀ e, entryOf s c = some e → l.drop 5 =
      [byte (1 + flagAt 1 (decide (e.kind = .engage)) + flagAt 2 (decide (e.phase = .announcing)) +
         16 * codeIn [.localSwitch, .remoteSwitch, .fireFrame, .service] e.origin),
       byte e.pulses, byte (e.wait.elapsed / ms 1 / 256), byte (e.wait.elapsed / ms 1)]) ∧
    (entryOf s c = none → l.getD 5 0 &&& 0xC9#8 = 0)
  | .switch n => l =
    [byte (codeIn [.unsettled, .opened, .closed] s.switches.records[n].level),
     byte (s.switches.records[n].edgeCount.toNat / 256), byte s.switches.records[n].edgeCount.toNat,
     byte (s.switches.records[n].lastEdge.toNat / 256), byte s.switches.records[n].lastEdge.toNat,
     byte s.switches.records[n].sequence.toNat]

/-- R36, R127, R130, R132, R169, R170: the wait of a series is over and its attempt begins: the draw slot with its
re-test and its frame, the head SWITCH frame, or the composed reply with the data of Table 11-4.  That the receiver
then stands between receptions is log entry 22. -/
def Obligations.AttemptBegins : Prop :=
  ∀ (s : State) (r : Series), s.bus.series = some r → r.cut = false → s.bus.wire = none → s.bus.started = true →
    s.bus.byteLeft = 0 → fragmentDue s = false →
    bits (12 + (if r.kind = .draw then 0 else if r.kind = .switch then 4 else 8) +
      16 * backOff (ownNumber s) r.failed) ≤ s.bus.idle →
    Yields (exec .txWaitExpiry s) fun t =>
      (r.kind = .draw →
        (s.sched.announce = none → t = { s with bus :=
          { onWire (drawOfState s.sched.committed s) s.bus with drawPending := false } }) ∧
        (∀ a, s.sched.announce = some a →
          (fits s s.sched.committed a.draw = true → t = { s with
            sched := { s.sched with announce := some { a with carried := true } }
            bus := { onWire (drawOfState (s.sched.committed + a.draw) s) s.bus with drawPending := false } }) ∧
          (fits s s.sched.committed a.draw = false → t = { s with
            sched := { s.sched with
              announce := none, scanDue := true
              queue := s.sched.queue.map fun x => if x.coil = a.coil then { x with phase := .queued } else x }
            bus := { onWire (drawOfState s.sched.committed s) s.bus with drawPending := false } }))) ∧
      (∀ sw k seq rest, r.kind = .switch → s.bus.general = .switch sw k seq :: rest →
        let payload : List Byte := [byte sw.val, byte (seq.toNat + if k = .close then 128 else 0)]
        t = { s with bus := onWire { src := ownNumber s, dst := 0, kind := 2, payload := payload } s.bus }) ∧
      (∀ p rest, r.kind = .reply → s.bus.general = .reply p :: rest →
        (∃ data : List Byte, TableData p.data s data ∧
          t.bus = onWire { src := ownNumber s, dst := 31, kind := 6
                           payload := byte p.code :: byte p.status :: data } s.bus) ∧
        t.service = (if p.data = .events then { s.service with raised := 0 } else s.service) ∧
        Framed [.bus, .service, .freeIndex] s t)

/-- R118, R131, R133, R139, R140, R40, R141, R169, R170: the success of an attempt, none of whose bytes a second station
contended; an attempt that was contended does not succeed.  A completed DRAW clears the abandon count in ANNOUNCED and
ARMED (Table 9-3), or at the entry to ANNOUNCED (R140); that the count elsewhere stands is log entry 26.  The D_rep it
carried is compared with the reported draw as it then stands (R40); an entry to ANNOUNCED sets the pending mark and
prompts a scan (R128, R144).  The model's choices: that the command changes
nothing where the attempt was contended (log entry 2), which start bits contend it (22), and, in the reset that follows
a reply to RESTART, the kept pins, waiting commands and count of free values (5, 18 and 1) and the values that the spec
does not state (3, 4, 29, 30, 32 and 33). -/
def Obligations.AttemptSucceeds : Prop :=
  ∀ (s : State) (r : Series) (w : Wire), s.bus.series = some r → s.bus.wire = some w →
    w.timer.limit ≤ w.timer.elapsed →
    (w.clashAt ≠ none → exec .txAttemptSuccess s = .next s) ∧
    (w.clashAt = none → Yields (exec .txAttemptSuccess s) fun t =>
      let idled : Bus := { s.bus with series := none, wire := none, idle := 0 }
      let linked : Prop := s.link.state = .announced ∨ s.link.state = .armed
      let announces : Prop := s.link.state = .listen ∧ s.link.listenWindow = none
      let heardNow : Timer := if linked then some (startTimer (cs (8 * s.settings.beat))) else s.link.silence
      (r.kind = .draw →
        t.bus = { idled with
          drawPending := t.bus.drawPending
          beatTimer := some (startTimer (cs (if s.link.state = .held then 5 else s.settings.beat))) } ∧
        (byteAt w.frame.payload 0 ≠ reportedDraw t → mayMark s = true → t.bus.drawPending = true) ∧
        (announces → t.bus.drawPending = true ∧ t.sched.scanDue = true ∧ t.link = { s.link with
          state := .announced, listenWindow := none, announcedTimer := some (startTimer (cs s.settings.beat))
          silence := some (startTimer (cs (8 * s.settings.beat))), abandonCount := 0 }) ∧
        (¬announces →
          t.link = { s.link with abandonCount := if linked then 0 else s.link.abandonCount, silence := heardNow } ∧
          (byteAt w.frame.payload 0 = reportedDraw t → reportedDraw t = reportedDraw s →
            t.bus.drawPending = s.bus.drawPending)) ∧
        (s.sched.announce.all (fun a => !a.carried) = true → t.coils = s.coils ∧ t.service = s.service ∧
          t.sched = { s.sched with scanDue := s.sched.scanDue || decide announces }) ∧
        (∀ a, s.sched.announce = some a → a.carried = true → eligible s a.coil = true →
          s.settings.coils[a.coil].cls ≠ .flipper →
          t.coils = s.coils.set a.coil (kickedFor s.coils[a.coil] s.settings.coils[a.coil].kickTime) ∧
          t.sched.committed = s.sched.committed + s.settings.coils[a.coil].draw ∧
          t.sched.announce = none ∧ t.sched.scanDue = true ∧
          t.service = { s.service with counters := counted 5 s.service.counters } ∧
          t.sched.queue = pulseTaken a.coil s.sched.queue) ∧
        Framed [.bus, .link, .sched, .coils, .service] s t) ∧
      (r.kind = .switch → t = { s with
        link := { s.link with silence := heardNow }
        bus := { idled with general := if r.cut then s.bus.general else s.bus.general.tail } }) ∧
      (∀ p, r.kind = .reply → s.bus.general.find? isReply = some (.reply p) →
        (p.restart = false → t = { s with
          link := { s.link with silence := heardNow }
          bus := { idled with general := s.bus.general.filter fun g => !isReply g }
          service := { s.service with events :=
            if p.data = .events then s.service.events &&&
              ~~~(BitVec.ofNat 16 (pairAt w.frame.payload 2) &&& ~~~s.service.raised)
            else s.service.events } }) ∧
        (p.restart = true → s.retained.valid = true → p.data ≠ .events → ResetFrom s t ∧
          t.retained = { s.retained with cause := .serviceRestart })))

/-- R118, R131, R134, R135, R37, R141: the failure of an attempt, due at the end of a contended byte, and the
abandonment of a frame at its 8th.  That TX_ATTEMPT_FAILURE is then TX_ABANDON, and that the abandon count stands at 3
until the loss of link is taken, is the model's reading (log entry 14); that the failure then falls due by itself is the
model's choice (log entry 2). -/
def Obligations.AttemptFails : Prop :=
  ∀ (s : State) (r : Series), s.bus.series = some r → atStopBit s = true →
    let idled : Bus := { s.bus with series := none, wire := none, idle := 0 }
    (∀ w e, s.bus.wire = some w → w.clashAt = some e → e ≤ w.timer.elapsed → isDue .txAttemptFailure s = true) ∧
    (r.failed < 7 → r.cut = false → Yields (exec .txAttemptFailure s) fun t =>
      t = { s with bus := { idled with series := some { r with failed := r.failed + 1 } } }) ∧
    (r.cut = true → Yields (exec .txAttemptFailure s) fun t => t = { s with bus := idled }) ∧
    (let abandons : Nat := if s.link.state = .announced ∨ s.link.state = .armed
       then min 3 (s.link.abandonCount + 1) else s.link.abandonCount
     r.cut = false → 7 ≤ r.failed → exec .txAttemptFailure s = exec .txAbandon s ∧
      Yields (exec .txAbandon s) fun t =>
        t.service = { events := s.service.events ||| 0x10#16, raised := s.service.raised ||| 0x10#16
                      counters := counted 3 s.service.counters } ∧
        (r.kind = .switch → t.bus = { idled with general := s.bus.general.tail } ∧
          Framed [.bus, .service] s t) ∧
        (r.kind = .reply → t.bus = { idled with general := s.bus.general.filter fun g => !isReply g } ∧
          Framed [.bus, .service] s t) ∧
        (r.kind = .draw →
          t.bus = { idled with drawPending := s.bus.drawPending || mayMark s } ∧
          t.sched = { s.sched with queue := queueWithdrawn s, announce := none
                                   scanDue := s.sched.scanDue || s.sched.announce.isSome } ∧
          t.link = { s.link with abandonCount := abandons } ∧
          Framed [.bus, .service, .sched, .link] s t))

/-! ### The link -/

/-- R139, R140, R141, R135: the LISTEN window, the announced timer, and the loss of link.  That the abandon count stands
at a loss of link is the model's reading (log entry 26). -/
def Obligations.LinkTimers : Prop :=
  ∀ (s : State),
    (s.link.state = .listen → timerReached s.link.listenWindow = true →
      Yields (exec .listenWindowExpiry s) fun t =>
        t = { s with link := { s.link with listenWindow := none }, bus := { s.bus with drawPending := true } }) ∧
    (s.link.state = .announced → timerReached s.link.announcedTimer = true →
      Yields (exec .announcedTimerExpiry s) fun t =>
        t = { s with link := { s.link with state := .armed, announcedTimer := none }
                     bus := { s.bus with drawPending := true }, sched := { s.sched with scanDue := true } }) ∧
    (s.link.state = .announced ∨ s.link.state = .armed →
      timerReached s.link.silence = true ∨ 3 ≤ s.link.abandonCount →
      Yields (exec .linkLost s) fun t =>
        t.link = { s.link with state := .listen, silence := none, announcedTimer := none
                               listenWindow := some (startTimer (cs (3 * s.settings.beat))) } ∧
        t.service = { s.service with events := s.service.events ||| 0x4000#16
                                     raised := s.service.raised ||| 0x4000#16 } ∧
        t.sched = { s.sched with queue := queueWithdrawn s, announce := none, scanDue := true } ∧
        t.bus = cutBack s.bus ∧
        Framed [.link, .service, .sched, .bus] s t)

/-- R146, R148, R149: a peer goes stale, a peer is removed, and the end of a bus quality window. -/
def Obligations.PeersAndQuality : Prop :=
  ∀ (s : State) (n : Nat) (p : Peer),
    (peerAt n s = some p → p.stale = false →
      cs (3 * max s.settings.beat p.beat) ≤ p.silence.elapsed → Yields (exec (.peerStaleExpiry n) s) fun t =>
        t = { s with
          link := { s.link with peers := s.link.peers.map fun x =>
            if x.station = n then { x with stale := true } else x }
          sched := { s.sched with scanDue := true }
          service := { s.service with events := s.service.events ||| 0x80#16
                                      raised := s.service.raised ||| 0x80#16 } }) ∧
    (peerAt n s = some p → p.silence.limit ≤ p.silence.elapsed → Yields (exec (.peerRemovalExpiry n) s) fun t =>
        t = { s with
          link := { s.link with peers := s.link.peers.filter fun x => x.station ≠ n }
          sched := { s.sched with scanDue := true }
          service := { s.service with events := s.service.events ||| 0x100#16
                                      raised := s.service.raised ||| 0x100#16 } }) ∧
    (256 ≤ s.link.windowFrames → qualityRuns s.link.state = true → Yields (exec .qualityWindowEnd s) fun t =>
        let now : Bool := decide (s.settings.quality ≤ s.link.windowBad) ||
          (s.link.degraded && decide (s.settings.quality / 2 < s.link.windowBad))
        t.link = { s.link with windowFrames := 0, windowBad := 0, degraded := now } ∧
        t.sched.scanDue = (s.sched.scanDue || decide (now ≠ s.link.degraded)) ∧
        t.bus = markedIf (decide (now ≠ s.link.degraded)) s ∧
        t.service.events = (if now = true ∧ s.link.degraded = false then s.service.events ||| 0x200#16
          else s.service.events) ∧
        t.service.counters = s.service.counters ∧ Framed [.link, .sched, .bus, .service] s t)
end

