-- ==== Sys2Proof/Laws/State.lean ====
section
/-! SUPPORT. What each update of the state does to each field: one lemma per field per update. -/

namespace Sys2Proof.Machine

variable (s : State)

/-! ### `State.onPins` -/

@[simp] theorem State.onPins_pins (f : Pins → Pins) : (s.onPins f).pins = f s.pins := rfl
@[simp] theorem State.onPins_retained (f : Pins → Pins) : (s.onPins f).retained = s.retained := rfl
@[simp] theorem State.onPins_startUp (f : Pins → Pins) : (s.onPins f).startUp = s.startUp := rfl
@[simp] theorem State.onPins_settings (f : Pins → Pins) : (s.onPins f).settings = s.settings := rfl
@[simp] theorem State.onPins_link (f : Pins → Pins) : (s.onPins f).link = s.link := rfl
@[simp] theorem State.onPins_sched (f : Pins → Pins) : (s.onPins f).sched = s.sched := rfl
@[simp] theorem State.onPins_coils (f : Pins → Pins) : (s.onPins f).coils = s.coils := rfl
@[simp] theorem State.onPins_thermal (f : Pins → Pins) : (s.onPins f).thermal = s.thermal := rfl
@[simp] theorem State.onPins_switches (f : Pins → Pins) : (s.onPins f).switches = s.switches := rfl
@[simp] theorem State.onPins_reflex (f : Pins → Pins) : (s.onPins f).reflex = s.reflex := rfl
@[simp] theorem State.onPins_lamps (f : Pins → Pins) : (s.onPins f).lamps = s.lamps := rfl
@[simp] theorem State.onPins_bus (f : Pins → Pins) : (s.onPins f).bus = s.bus := rfl
@[simp] theorem State.onPins_rail (f : Pins → Pins) : (s.onPins f).rail = s.rail := rfl
@[simp] theorem State.onPins_faultLine (f : Pins → Pins) : (s.onPins f).faultLine = s.faultLine := rfl
@[simp] theorem State.onPins_service (f : Pins → Pins) : (s.onPins f).service = s.service := rfl
@[simp] theorem State.onPins_freeIndex (f : Pins → Pins) : (s.onPins f).freeIndex = s.freeIndex := rfl
@[simp] theorem State.onPins_pending (f : Pins → Pins) : (s.onPins f).pending = s.pending := rfl

/-! ### `State.onRetained` -/

@[simp] theorem State.onRetained_pins (f : Retained → Retained) : (s.onRetained f).pins = s.pins := rfl
@[simp] theorem State.onRetained_retained (f : Retained → Retained) : (s.onRetained f).retained = f s.retained := rfl
@[simp] theorem State.onRetained_startUp (f : Retained → Retained) : (s.onRetained f).startUp = s.startUp := rfl
@[simp] theorem State.onRetained_settings (f : Retained → Retained) : (s.onRetained f).settings = s.settings := rfl
@[simp] theorem State.onRetained_link (f : Retained → Retained) : (s.onRetained f).link = s.link := rfl
@[simp] theorem State.onRetained_sched (f : Retained → Retained) : (s.onRetained f).sched = s.sched := rfl
@[simp] theorem State.onRetained_coils (f : Retained → Retained) : (s.onRetained f).coils = s.coils := rfl
@[simp] theorem State.onRetained_thermal (f : Retained → Retained) : (s.onRetained f).thermal = s.thermal := rfl
@[simp] theorem State.onRetained_switches (f : Retained → Retained) : (s.onRetained f).switches = s.switches := rfl
@[simp] theorem State.onRetained_reflex (f : Retained → Retained) : (s.onRetained f).reflex = s.reflex := rfl
@[simp] theorem State.onRetained_lamps (f : Retained → Retained) : (s.onRetained f).lamps = s.lamps := rfl
@[simp] theorem State.onRetained_bus (f : Retained → Retained) : (s.onRetained f).bus = s.bus := rfl
@[simp] theorem State.onRetained_rail (f : Retained → Retained) : (s.onRetained f).rail = s.rail := rfl
@[simp] theorem State.onRetained_faultLine (f : Retained → Retained) : (s.onRetained f).faultLine = s.faultLine := rfl
@[simp] theorem State.onRetained_service (f : Retained → Retained) : (s.onRetained f).service = s.service := rfl
@[simp] theorem State.onRetained_freeIndex (f : Retained → Retained) : (s.onRetained f).freeIndex = s.freeIndex := rfl
@[simp] theorem State.onRetained_pending (f : Retained → Retained) : (s.onRetained f).pending = s.pending := rfl

/-! ### `State.onStartUp` -/

@[simp] theorem State.onStartUp_pins (f : StartUp → StartUp) : (s.onStartUp f).pins = s.pins := rfl
@[simp] theorem State.onStartUp_retained (f : StartUp → StartUp) : (s.onStartUp f).retained = s.retained := rfl
@[simp] theorem State.onStartUp_startUp (f : StartUp → StartUp) : (s.onStartUp f).startUp = f s.startUp := rfl
@[simp] theorem State.onStartUp_settings (f : StartUp → StartUp) : (s.onStartUp f).settings = s.settings := rfl
@[simp] theorem State.onStartUp_link (f : StartUp → StartUp) : (s.onStartUp f).link = s.link := rfl
@[simp] theorem State.onStartUp_sched (f : StartUp → StartUp) : (s.onStartUp f).sched = s.sched := rfl
@[simp] theorem State.onStartUp_coils (f : StartUp → StartUp) : (s.onStartUp f).coils = s.coils := rfl
@[simp] theorem State.onStartUp_thermal (f : StartUp → StartUp) : (s.onStartUp f).thermal = s.thermal := rfl
@[simp] theorem State.onStartUp_switches (f : StartUp → StartUp) : (s.onStartUp f).switches = s.switches := rfl
@[simp] theorem State.onStartUp_reflex (f : StartUp → StartUp) : (s.onStartUp f).reflex = s.reflex := rfl
@[simp] theorem State.onStartUp_lamps (f : StartUp → StartUp) : (s.onStartUp f).lamps = s.lamps := rfl
@[simp] theorem State.onStartUp_bus (f : StartUp → StartUp) : (s.onStartUp f).bus = s.bus := rfl
@[simp] theorem State.onStartUp_rail (f : StartUp → StartUp) : (s.onStartUp f).rail = s.rail := rfl
@[simp] theorem State.onStartUp_faultLine (f : StartUp → StartUp) : (s.onStartUp f).faultLine = s.faultLine := rfl
@[simp] theorem State.onStartUp_service (f : StartUp → StartUp) : (s.onStartUp f).service = s.service := rfl
@[simp] theorem State.onStartUp_freeIndex (f : StartUp → StartUp) : (s.onStartUp f).freeIndex = s.freeIndex := rfl
@[simp] theorem State.onStartUp_pending (f : StartUp → StartUp) : (s.onStartUp f).pending = s.pending := rfl

/-! ### `State.onSettings` -/

@[simp] theorem State.onSettings_pins (f : Settings → Settings) : (s.onSettings f).pins = s.pins := rfl
@[simp] theorem State.onSettings_retained (f : Settings → Settings) : (s.onSettings f).retained = s.retained := rfl
@[simp] theorem State.onSettings_startUp (f : Settings → Settings) : (s.onSettings f).startUp = s.startUp := rfl
@[simp] theorem State.onSettings_settings (f : Settings → Settings) : (s.onSettings f).settings = f s.settings := rfl
@[simp] theorem State.onSettings_link (f : Settings → Settings) : (s.onSettings f).link = s.link := rfl
@[simp] theorem State.onSettings_sched (f : Settings → Settings) : (s.onSettings f).sched = s.sched := rfl
@[simp] theorem State.onSettings_coils (f : Settings → Settings) : (s.onSettings f).coils = s.coils := rfl
@[simp] theorem State.onSettings_thermal (f : Settings → Settings) : (s.onSettings f).thermal = s.thermal := rfl
@[simp] theorem State.onSettings_switches (f : Settings → Settings) : (s.onSettings f).switches = s.switches := rfl
@[simp] theorem State.onSettings_reflex (f : Settings → Settings) : (s.onSettings f).reflex = s.reflex := rfl
@[simp] theorem State.onSettings_lamps (f : Settings → Settings) : (s.onSettings f).lamps = s.lamps := rfl
@[simp] theorem State.onSettings_bus (f : Settings → Settings) : (s.onSettings f).bus = s.bus := rfl
@[simp] theorem State.onSettings_rail (f : Settings → Settings) : (s.onSettings f).rail = s.rail := rfl
@[simp] theorem State.onSettings_faultLine (f : Settings → Settings) : (s.onSettings f).faultLine = s.faultLine := rfl
@[simp] theorem State.onSettings_service (f : Settings → Settings) : (s.onSettings f).service = s.service := rfl
@[simp] theorem State.onSettings_freeIndex (f : Settings → Settings) : (s.onSettings f).freeIndex = s.freeIndex := rfl
@[simp] theorem State.onSettings_pending (f : Settings → Settings) : (s.onSettings f).pending = s.pending := rfl

/-! ### `State.onLink` -/

@[simp] theorem State.onLink_pins (f : LinkUnit → LinkUnit) : (s.onLink f).pins = s.pins := rfl
@[simp] theorem State.onLink_retained (f : LinkUnit → LinkUnit) : (s.onLink f).retained = s.retained := rfl
@[simp] theorem State.onLink_startUp (f : LinkUnit → LinkUnit) : (s.onLink f).startUp = s.startUp := rfl
@[simp] theorem State.onLink_settings (f : LinkUnit → LinkUnit) : (s.onLink f).settings = s.settings := rfl
@[simp] theorem State.onLink_link (f : LinkUnit → LinkUnit) : (s.onLink f).link = f s.link := rfl
@[simp] theorem State.onLink_sched (f : LinkUnit → LinkUnit) : (s.onLink f).sched = s.sched := rfl
@[simp] theorem State.onLink_coils (f : LinkUnit → LinkUnit) : (s.onLink f).coils = s.coils := rfl
@[simp] theorem State.onLink_thermal (f : LinkUnit → LinkUnit) : (s.onLink f).thermal = s.thermal := rfl
@[simp] theorem State.onLink_switches (f : LinkUnit → LinkUnit) : (s.onLink f).switches = s.switches := rfl
@[simp] theorem State.onLink_reflex (f : LinkUnit → LinkUnit) : (s.onLink f).reflex = s.reflex := rfl
@[simp] theorem State.onLink_lamps (f : LinkUnit → LinkUnit) : (s.onLink f).lamps = s.lamps := rfl
@[simp] theorem State.onLink_bus (f : LinkUnit → LinkUnit) : (s.onLink f).bus = s.bus := rfl
@[simp] theorem State.onLink_rail (f : LinkUnit → LinkUnit) : (s.onLink f).rail = s.rail := rfl
@[simp] theorem State.onLink_faultLine (f : LinkUnit → LinkUnit) : (s.onLink f).faultLine = s.faultLine := rfl
@[simp] theorem State.onLink_service (f : LinkUnit → LinkUnit) : (s.onLink f).service = s.service := rfl
@[simp] theorem State.onLink_freeIndex (f : LinkUnit → LinkUnit) : (s.onLink f).freeIndex = s.freeIndex := rfl
@[simp] theorem State.onLink_pending (f : LinkUnit → LinkUnit) : (s.onLink f).pending = s.pending := rfl

/-! ### `State.onSched` -/

@[simp] theorem State.onSched_pins (f : Scheduler → Scheduler) : (s.onSched f).pins = s.pins := rfl
@[simp] theorem State.onSched_retained (f : Scheduler → Scheduler) : (s.onSched f).retained = s.retained := rfl
@[simp] theorem State.onSched_startUp (f : Scheduler → Scheduler) : (s.onSched f).startUp = s.startUp := rfl
@[simp] theorem State.onSched_settings (f : Scheduler → Scheduler) : (s.onSched f).settings = s.settings := rfl
@[simp] theorem State.onSched_link (f : Scheduler → Scheduler) : (s.onSched f).link = s.link := rfl
@[simp] theorem State.onSched_sched (f : Scheduler → Scheduler) : (s.onSched f).sched = f s.sched := rfl
@[simp] theorem State.onSched_coils (f : Scheduler → Scheduler) : (s.onSched f).coils = s.coils := rfl
@[simp] theorem State.onSched_thermal (f : Scheduler → Scheduler) : (s.onSched f).thermal = s.thermal := rfl
@[simp] theorem State.onSched_switches (f : Scheduler → Scheduler) : (s.onSched f).switches = s.switches := rfl
@[simp] theorem State.onSched_reflex (f : Scheduler → Scheduler) : (s.onSched f).reflex = s.reflex := rfl
@[simp] theorem State.onSched_lamps (f : Scheduler → Scheduler) : (s.onSched f).lamps = s.lamps := rfl
@[simp] theorem State.onSched_bus (f : Scheduler → Scheduler) : (s.onSched f).bus = s.bus := rfl
@[simp] theorem State.onSched_rail (f : Scheduler → Scheduler) : (s.onSched f).rail = s.rail := rfl
@[simp] theorem State.onSched_faultLine (f : Scheduler → Scheduler) : (s.onSched f).faultLine = s.faultLine := rfl
@[simp] theorem State.onSched_service (f : Scheduler → Scheduler) : (s.onSched f).service = s.service := rfl
@[simp] theorem State.onSched_freeIndex (f : Scheduler → Scheduler) : (s.onSched f).freeIndex = s.freeIndex := rfl
@[simp] theorem State.onSched_pending (f : Scheduler → Scheduler) : (s.onSched f).pending = s.pending := rfl

/-! ### `State.onCoils` -/

@[simp] theorem State.onCoils_pins (f : Vector CoilChannel 16 → Vector CoilChannel 16) : (s.onCoils f).pins = s.pins := rfl
@[simp] theorem State.onCoils_retained (f : Vector CoilChannel 16 → Vector CoilChannel 16) : (s.onCoils f).retained = s.retained := rfl
@[simp] theorem State.onCoils_startUp (f : Vector CoilChannel 16 → Vector CoilChannel 16) : (s.onCoils f).startUp = s.startUp := rfl
@[simp] theorem State.onCoils_settings (f : Vector CoilChannel 16 → Vector CoilChannel 16) : (s.onCoils f).settings = s.settings := rfl
@[simp] theorem State.onCoils_link (f : Vector CoilChannel 16 → Vector CoilChannel 16) : (s.onCoils f).link = s.link := rfl
@[simp] theorem State.onCoils_sched (f : Vector CoilChannel 16 → Vector CoilChannel 16) : (s.onCoils f).sched = s.sched := rfl
@[simp] theorem State.onCoils_coils (f : Vector CoilChannel 16 → Vector CoilChannel 16) : (s.onCoils f).coils = f s.coils := rfl
@[simp] theorem State.onCoils_thermal (f : Vector CoilChannel 16 → Vector CoilChannel 16) : (s.onCoils f).thermal = s.thermal := rfl
@[simp] theorem State.onCoils_switches (f : Vector CoilChannel 16 → Vector CoilChannel 16) : (s.onCoils f).switches = s.switches := rfl
@[simp] theorem State.onCoils_reflex (f : Vector CoilChannel 16 → Vector CoilChannel 16) : (s.onCoils f).reflex = s.reflex := rfl
@[simp] theorem State.onCoils_lamps (f : Vector CoilChannel 16 → Vector CoilChannel 16) : (s.onCoils f).lamps = s.lamps := rfl
@[simp] theorem State.onCoils_bus (f : Vector CoilChannel 16 → Vector CoilChannel 16) : (s.onCoils f).bus = s.bus := rfl
@[simp] theorem State.onCoils_rail (f : Vector CoilChannel 16 → Vector CoilChannel 16) : (s.onCoils f).rail = s.rail := rfl
@[simp] theorem State.onCoils_faultLine (f : Vector CoilChannel 16 → Vector CoilChannel 16) : (s.onCoils f).faultLine = s.faultLine := rfl
@[simp] theorem State.onCoils_service (f : Vector CoilChannel 16 → Vector CoilChannel 16) : (s.onCoils f).service = s.service := rfl
@[simp] theorem State.onCoils_freeIndex (f : Vector CoilChannel 16 → Vector CoilChannel 16) : (s.onCoils f).freeIndex = s.freeIndex := rfl
@[simp] theorem State.onCoils_pending (f : Vector CoilChannel 16 → Vector CoilChannel 16) : (s.onCoils f).pending = s.pending := rfl

/-! ### `State.onThermal` -/

@[simp] theorem State.onThermal_pins (f : Thermal → Thermal) : (s.onThermal f).pins = s.pins := rfl
@[simp] theorem State.onThermal_retained (f : Thermal → Thermal) : (s.onThermal f).retained = s.retained := rfl
@[simp] theorem State.onThermal_startUp (f : Thermal → Thermal) : (s.onThermal f).startUp = s.startUp := rfl
@[simp] theorem State.onThermal_settings (f : Thermal → Thermal) : (s.onThermal f).settings = s.settings := rfl
@[simp] theorem State.onThermal_link (f : Thermal → Thermal) : (s.onThermal f).link = s.link := rfl
@[simp] theorem State.onThermal_sched (f : Thermal → Thermal) : (s.onThermal f).sched = s.sched := rfl
@[simp] theorem State.onThermal_coils (f : Thermal → Thermal) : (s.onThermal f).coils = s.coils := rfl
@[simp] theorem State.onThermal_thermal (f : Thermal → Thermal) : (s.onThermal f).thermal = f s.thermal := rfl
@[simp] theorem State.onThermal_switches (f : Thermal → Thermal) : (s.onThermal f).switches = s.switches := rfl
@[simp] theorem State.onThermal_reflex (f : Thermal → Thermal) : (s.onThermal f).reflex = s.reflex := rfl
@[simp] theorem State.onThermal_lamps (f : Thermal → Thermal) : (s.onThermal f).lamps = s.lamps := rfl
@[simp] theorem State.onThermal_bus (f : Thermal → Thermal) : (s.onThermal f).bus = s.bus := rfl
@[simp] theorem State.onThermal_rail (f : Thermal → Thermal) : (s.onThermal f).rail = s.rail := rfl
@[simp] theorem State.onThermal_faultLine (f : Thermal → Thermal) : (s.onThermal f).faultLine = s.faultLine := rfl
@[simp] theorem State.onThermal_service (f : Thermal → Thermal) : (s.onThermal f).service = s.service := rfl
@[simp] theorem State.onThermal_freeIndex (f : Thermal → Thermal) : (s.onThermal f).freeIndex = s.freeIndex := rfl
@[simp] theorem State.onThermal_pending (f : Thermal → Thermal) : (s.onThermal f).pending = s.pending := rfl

/-! ### `State.onSwitches` -/

@[simp] theorem State.onSwitches_pins (f : SwitchUnit → SwitchUnit) : (s.onSwitches f).pins = s.pins := rfl
@[simp] theorem State.onSwitches_retained (f : SwitchUnit → SwitchUnit) : (s.onSwitches f).retained = s.retained := rfl
@[simp] theorem State.onSwitches_startUp (f : SwitchUnit → SwitchUnit) : (s.onSwitches f).startUp = s.startUp := rfl
@[simp] theorem State.onSwitches_settings (f : SwitchUnit → SwitchUnit) : (s.onSwitches f).settings = s.settings := rfl
@[simp] theorem State.onSwitches_link (f : SwitchUnit → SwitchUnit) : (s.onSwitches f).link = s.link := rfl
@[simp] theorem State.onSwitches_sched (f : SwitchUnit → SwitchUnit) : (s.onSwitches f).sched = s.sched := rfl
@[simp] theorem State.onSwitches_coils (f : SwitchUnit → SwitchUnit) : (s.onSwitches f).coils = s.coils := rfl
@[simp] theorem State.onSwitches_thermal (f : SwitchUnit → SwitchUnit) : (s.onSwitches f).thermal = s.thermal := rfl
@[simp] theorem State.onSwitches_switches (f : SwitchUnit → SwitchUnit) : (s.onSwitches f).switches = f s.switches := rfl
@[simp] theorem State.onSwitches_reflex (f : SwitchUnit → SwitchUnit) : (s.onSwitches f).reflex = s.reflex := rfl
@[simp] theorem State.onSwitches_lamps (f : SwitchUnit → SwitchUnit) : (s.onSwitches f).lamps = s.lamps := rfl
@[simp] theorem State.onSwitches_bus (f : SwitchUnit → SwitchUnit) : (s.onSwitches f).bus = s.bus := rfl
@[simp] theorem State.onSwitches_rail (f : SwitchUnit → SwitchUnit) : (s.onSwitches f).rail = s.rail := rfl
@[simp] theorem State.onSwitches_faultLine (f : SwitchUnit → SwitchUnit) : (s.onSwitches f).faultLine = s.faultLine := rfl
@[simp] theorem State.onSwitches_service (f : SwitchUnit → SwitchUnit) : (s.onSwitches f).service = s.service := rfl
@[simp] theorem State.onSwitches_freeIndex (f : SwitchUnit → SwitchUnit) : (s.onSwitches f).freeIndex = s.freeIndex := rfl
@[simp] theorem State.onSwitches_pending (f : SwitchUnit → SwitchUnit) : (s.onSwitches f).pending = s.pending := rfl

/-! ### `State.onReflex` -/

@[simp] theorem State.onReflex_pins (f : ReflexTable → ReflexTable) : (s.onReflex f).pins = s.pins := rfl
@[simp] theorem State.onReflex_retained (f : ReflexTable → ReflexTable) : (s.onReflex f).retained = s.retained := rfl
@[simp] theorem State.onReflex_startUp (f : ReflexTable → ReflexTable) : (s.onReflex f).startUp = s.startUp := rfl
@[simp] theorem State.onReflex_settings (f : ReflexTable → ReflexTable) : (s.onReflex f).settings = s.settings := rfl
@[simp] theorem State.onReflex_link (f : ReflexTable → ReflexTable) : (s.onReflex f).link = s.link := rfl
@[simp] theorem State.onReflex_sched (f : ReflexTable → ReflexTable) : (s.onReflex f).sched = s.sched := rfl
@[simp] theorem State.onReflex_coils (f : ReflexTable → ReflexTable) : (s.onReflex f).coils = s.coils := rfl
@[simp] theorem State.onReflex_thermal (f : ReflexTable → ReflexTable) : (s.onReflex f).thermal = s.thermal := rfl
@[simp] theorem State.onReflex_switches (f : ReflexTable → ReflexTable) : (s.onReflex f).switches = s.switches := rfl
@[simp] theorem State.onReflex_reflex (f : ReflexTable → ReflexTable) : (s.onReflex f).reflex = f s.reflex := rfl
@[simp] theorem State.onReflex_lamps (f : ReflexTable → ReflexTable) : (s.onReflex f).lamps = s.lamps := rfl
@[simp] theorem State.onReflex_bus (f : ReflexTable → ReflexTable) : (s.onReflex f).bus = s.bus := rfl
@[simp] theorem State.onReflex_rail (f : ReflexTable → ReflexTable) : (s.onReflex f).rail = s.rail := rfl
@[simp] theorem State.onReflex_faultLine (f : ReflexTable → ReflexTable) : (s.onReflex f).faultLine = s.faultLine := rfl
@[simp] theorem State.onReflex_service (f : ReflexTable → ReflexTable) : (s.onReflex f).service = s.service := rfl
@[simp] theorem State.onReflex_freeIndex (f : ReflexTable → ReflexTable) : (s.onReflex f).freeIndex = s.freeIndex := rfl
@[simp] theorem State.onReflex_pending (f : ReflexTable → ReflexTable) : (s.onReflex f).pending = s.pending := rfl

/-! ### `State.onLamps` -/

@[simp] theorem State.onLamps_pins (f : LampUnit → LampUnit) : (s.onLamps f).pins = s.pins := rfl
@[simp] theorem State.onLamps_retained (f : LampUnit → LampUnit) : (s.onLamps f).retained = s.retained := rfl
@[simp] theorem State.onLamps_startUp (f : LampUnit → LampUnit) : (s.onLamps f).startUp = s.startUp := rfl
@[simp] theorem State.onLamps_settings (f : LampUnit → LampUnit) : (s.onLamps f).settings = s.settings := rfl
@[simp] theorem State.onLamps_link (f : LampUnit → LampUnit) : (s.onLamps f).link = s.link := rfl
@[simp] theorem State.onLamps_sched (f : LampUnit → LampUnit) : (s.onLamps f).sched = s.sched := rfl
@[simp] theorem State.onLamps_coils (f : LampUnit → LampUnit) : (s.onLamps f).coils = s.coils := rfl
@[simp] theorem State.onLamps_thermal (f : LampUnit → LampUnit) : (s.onLamps f).thermal = s.thermal := rfl
@[simp] theorem State.onLamps_switches (f : LampUnit → LampUnit) : (s.onLamps f).switches = s.switches := rfl
@[simp] theorem State.onLamps_reflex (f : LampUnit → LampUnit) : (s.onLamps f).reflex = s.reflex := rfl
@[simp] theorem State.onLamps_lamps (f : LampUnit → LampUnit) : (s.onLamps f).lamps = f s.lamps := rfl
@[simp] theorem State.onLamps_bus (f : LampUnit → LampUnit) : (s.onLamps f).bus = s.bus := rfl
@[simp] theorem State.onLamps_rail (f : LampUnit → LampUnit) : (s.onLamps f).rail = s.rail := rfl
@[simp] theorem State.onLamps_faultLine (f : LampUnit → LampUnit) : (s.onLamps f).faultLine = s.faultLine := rfl
@[simp] theorem State.onLamps_service (f : LampUnit → LampUnit) : (s.onLamps f).service = s.service := rfl
@[simp] theorem State.onLamps_freeIndex (f : LampUnit → LampUnit) : (s.onLamps f).freeIndex = s.freeIndex := rfl
@[simp] theorem State.onLamps_pending (f : LampUnit → LampUnit) : (s.onLamps f).pending = s.pending := rfl

/-! ### `State.onBus` -/

@[simp] theorem State.onBus_pins (f : Bus → Bus) : (s.onBus f).pins = s.pins := rfl
@[simp] theorem State.onBus_retained (f : Bus → Bus) : (s.onBus f).retained = s.retained := rfl
@[simp] theorem State.onBus_startUp (f : Bus → Bus) : (s.onBus f).startUp = s.startUp := rfl
@[simp] theorem State.onBus_settings (f : Bus → Bus) : (s.onBus f).settings = s.settings := rfl
@[simp] theorem State.onBus_link (f : Bus → Bus) : (s.onBus f).link = s.link := rfl
@[simp] theorem State.onBus_sched (f : Bus → Bus) : (s.onBus f).sched = s.sched := rfl
@[simp] theorem State.onBus_coils (f : Bus → Bus) : (s.onBus f).coils = s.coils := rfl
@[simp] theorem State.onBus_thermal (f : Bus → Bus) : (s.onBus f).thermal = s.thermal := rfl
@[simp] theorem State.onBus_switches (f : Bus → Bus) : (s.onBus f).switches = s.switches := rfl
@[simp] theorem State.onBus_reflex (f : Bus → Bus) : (s.onBus f).reflex = s.reflex := rfl
@[simp] theorem State.onBus_lamps (f : Bus → Bus) : (s.onBus f).lamps = s.lamps := rfl
@[simp] theorem State.onBus_bus (f : Bus → Bus) : (s.onBus f).bus = f s.bus := rfl
@[simp] theorem State.onBus_rail (f : Bus → Bus) : (s.onBus f).rail = s.rail := rfl
@[simp] theorem State.onBus_faultLine (f : Bus → Bus) : (s.onBus f).faultLine = s.faultLine := rfl
@[simp] theorem State.onBus_service (f : Bus → Bus) : (s.onBus f).service = s.service := rfl
@[simp] theorem State.onBus_freeIndex (f : Bus → Bus) : (s.onBus f).freeIndex = s.freeIndex := rfl
@[simp] theorem State.onBus_pending (f : Bus → Bus) : (s.onBus f).pending = s.pending := rfl

/-! ### `State.onRail` -/

@[simp] theorem State.onRail_pins (f : RailMonitor → RailMonitor) : (s.onRail f).pins = s.pins := rfl
@[simp] theorem State.onRail_retained (f : RailMonitor → RailMonitor) : (s.onRail f).retained = s.retained := rfl
@[simp] theorem State.onRail_startUp (f : RailMonitor → RailMonitor) : (s.onRail f).startUp = s.startUp := rfl
@[simp] theorem State.onRail_settings (f : RailMonitor → RailMonitor) : (s.onRail f).settings = s.settings := rfl
@[simp] theorem State.onRail_link (f : RailMonitor → RailMonitor) : (s.onRail f).link = s.link := rfl
@[simp] theorem State.onRail_sched (f : RailMonitor → RailMonitor) : (s.onRail f).sched = s.sched := rfl
@[simp] theorem State.onRail_coils (f : RailMonitor → RailMonitor) : (s.onRail f).coils = s.coils := rfl
@[simp] theorem State.onRail_thermal (f : RailMonitor → RailMonitor) : (s.onRail f).thermal = s.thermal := rfl
@[simp] theorem State.onRail_switches (f : RailMonitor → RailMonitor) : (s.onRail f).switches = s.switches := rfl
@[simp] theorem State.onRail_reflex (f : RailMonitor → RailMonitor) : (s.onRail f).reflex = s.reflex := rfl
@[simp] theorem State.onRail_lamps (f : RailMonitor → RailMonitor) : (s.onRail f).lamps = s.lamps := rfl
@[simp] theorem State.onRail_bus (f : RailMonitor → RailMonitor) : (s.onRail f).bus = s.bus := rfl
@[simp] theorem State.onRail_rail (f : RailMonitor → RailMonitor) : (s.onRail f).rail = f s.rail := rfl
@[simp] theorem State.onRail_faultLine (f : RailMonitor → RailMonitor) : (s.onRail f).faultLine = s.faultLine := rfl
@[simp] theorem State.onRail_service (f : RailMonitor → RailMonitor) : (s.onRail f).service = s.service := rfl
@[simp] theorem State.onRail_freeIndex (f : RailMonitor → RailMonitor) : (s.onRail f).freeIndex = s.freeIndex := rfl
@[simp] theorem State.onRail_pending (f : RailMonitor → RailMonitor) : (s.onRail f).pending = s.pending := rfl

/-! ### `State.onFaultLine` -/

@[simp] theorem State.onFaultLine_pins (f : FaultLine → FaultLine) : (s.onFaultLine f).pins = s.pins := rfl
@[simp] theorem State.onFaultLine_retained (f : FaultLine → FaultLine) : (s.onFaultLine f).retained = s.retained := rfl
@[simp] theorem State.onFaultLine_startUp (f : FaultLine → FaultLine) : (s.onFaultLine f).startUp = s.startUp := rfl
@[simp] theorem State.onFaultLine_settings (f : FaultLine → FaultLine) : (s.onFaultLine f).settings = s.settings := rfl
@[simp] theorem State.onFaultLine_link (f : FaultLine → FaultLine) : (s.onFaultLine f).link = s.link := rfl
@[simp] theorem State.onFaultLine_sched (f : FaultLine → FaultLine) : (s.onFaultLine f).sched = s.sched := rfl
@[simp] theorem State.onFaultLine_coils (f : FaultLine → FaultLine) : (s.onFaultLine f).coils = s.coils := rfl
@[simp] theorem State.onFaultLine_thermal (f : FaultLine → FaultLine) : (s.onFaultLine f).thermal = s.thermal := rfl
@[simp] theorem State.onFaultLine_switches (f : FaultLine → FaultLine) : (s.onFaultLine f).switches = s.switches := rfl
@[simp] theorem State.onFaultLine_reflex (f : FaultLine → FaultLine) : (s.onFaultLine f).reflex = s.reflex := rfl
@[simp] theorem State.onFaultLine_lamps (f : FaultLine → FaultLine) : (s.onFaultLine f).lamps = s.lamps := rfl
@[simp] theorem State.onFaultLine_bus (f : FaultLine → FaultLine) : (s.onFaultLine f).bus = s.bus := rfl
@[simp] theorem State.onFaultLine_rail (f : FaultLine → FaultLine) : (s.onFaultLine f).rail = s.rail := rfl
@[simp] theorem State.onFaultLine_faultLine (f : FaultLine → FaultLine) : (s.onFaultLine f).faultLine = f s.faultLine := rfl
@[simp] theorem State.onFaultLine_service (f : FaultLine → FaultLine) : (s.onFaultLine f).service = s.service := rfl
@[simp] theorem State.onFaultLine_freeIndex (f : FaultLine → FaultLine) : (s.onFaultLine f).freeIndex = s.freeIndex := rfl
@[simp] theorem State.onFaultLine_pending (f : FaultLine → FaultLine) : (s.onFaultLine f).pending = s.pending := rfl

/-! ### `State.onService` -/

@[simp] theorem State.onService_pins (f : Service → Service) : (s.onService f).pins = s.pins := rfl
@[simp] theorem State.onService_retained (f : Service → Service) : (s.onService f).retained = s.retained := rfl
@[simp] theorem State.onService_startUp (f : Service → Service) : (s.onService f).startUp = s.startUp := rfl
@[simp] theorem State.onService_settings (f : Service → Service) : (s.onService f).settings = s.settings := rfl
@[simp] theorem State.onService_link (f : Service → Service) : (s.onService f).link = s.link := rfl
@[simp] theorem State.onService_sched (f : Service → Service) : (s.onService f).sched = s.sched := rfl
@[simp] theorem State.onService_coils (f : Service → Service) : (s.onService f).coils = s.coils := rfl
@[simp] theorem State.onService_thermal (f : Service → Service) : (s.onService f).thermal = s.thermal := rfl
@[simp] theorem State.onService_switches (f : Service → Service) : (s.onService f).switches = s.switches := rfl
@[simp] theorem State.onService_reflex (f : Service → Service) : (s.onService f).reflex = s.reflex := rfl
@[simp] theorem State.onService_lamps (f : Service → Service) : (s.onService f).lamps = s.lamps := rfl
@[simp] theorem State.onService_bus (f : Service → Service) : (s.onService f).bus = s.bus := rfl
@[simp] theorem State.onService_rail (f : Service → Service) : (s.onService f).rail = s.rail := rfl
@[simp] theorem State.onService_faultLine (f : Service → Service) : (s.onService f).faultLine = s.faultLine := rfl
@[simp] theorem State.onService_service (f : Service → Service) : (s.onService f).service = f s.service := rfl
@[simp] theorem State.onService_freeIndex (f : Service → Service) : (s.onService f).freeIndex = s.freeIndex := rfl
@[simp] theorem State.onService_pending (f : Service → Service) : (s.onService f).pending = s.pending := rfl

/-! ### `State.onFreeIndex` -/

@[simp] theorem State.onFreeIndex_pins (f : Nat → Nat) : (s.onFreeIndex f).pins = s.pins := rfl
@[simp] theorem State.onFreeIndex_retained (f : Nat → Nat) : (s.onFreeIndex f).retained = s.retained := rfl
@[simp] theorem State.onFreeIndex_startUp (f : Nat → Nat) : (s.onFreeIndex f).startUp = s.startUp := rfl
@[simp] theorem State.onFreeIndex_settings (f : Nat → Nat) : (s.onFreeIndex f).settings = s.settings := rfl
@[simp] theorem State.onFreeIndex_link (f : Nat → Nat) : (s.onFreeIndex f).link = s.link := rfl
@[simp] theorem State.onFreeIndex_sched (f : Nat → Nat) : (s.onFreeIndex f).sched = s.sched := rfl
@[simp] theorem State.onFreeIndex_coils (f : Nat → Nat) : (s.onFreeIndex f).coils = s.coils := rfl
@[simp] theorem State.onFreeIndex_thermal (f : Nat → Nat) : (s.onFreeIndex f).thermal = s.thermal := rfl
@[simp] theorem State.onFreeIndex_switches (f : Nat → Nat) : (s.onFreeIndex f).switches = s.switches := rfl
@[simp] theorem State.onFreeIndex_reflex (f : Nat → Nat) : (s.onFreeIndex f).reflex = s.reflex := rfl
@[simp] theorem State.onFreeIndex_lamps (f : Nat → Nat) : (s.onFreeIndex f).lamps = s.lamps := rfl
@[simp] theorem State.onFreeIndex_bus (f : Nat → Nat) : (s.onFreeIndex f).bus = s.bus := rfl
@[simp] theorem State.onFreeIndex_rail (f : Nat → Nat) : (s.onFreeIndex f).rail = s.rail := rfl
@[simp] theorem State.onFreeIndex_faultLine (f : Nat → Nat) : (s.onFreeIndex f).faultLine = s.faultLine := rfl
@[simp] theorem State.onFreeIndex_service (f : Nat → Nat) : (s.onFreeIndex f).service = s.service := rfl
@[simp] theorem State.onFreeIndex_freeIndex (f : Nat → Nat) : (s.onFreeIndex f).freeIndex = f s.freeIndex := rfl
@[simp] theorem State.onFreeIndex_pending (f : Nat → Nat) : (s.onFreeIndex f).pending = s.pending := rfl

/-! ### `State.withPending` -/

@[simp] theorem State.withPending_pins (q : List Instr) : (s.withPending q).pins = s.pins := rfl
@[simp] theorem State.withPending_retained (q : List Instr) : (s.withPending q).retained = s.retained := rfl
@[simp] theorem State.withPending_startUp (q : List Instr) : (s.withPending q).startUp = s.startUp := rfl
@[simp] theorem State.withPending_settings (q : List Instr) : (s.withPending q).settings = s.settings := rfl
@[simp] theorem State.withPending_link (q : List Instr) : (s.withPending q).link = s.link := rfl
@[simp] theorem State.withPending_sched (q : List Instr) : (s.withPending q).sched = s.sched := rfl
@[simp] theorem State.withPending_coils (q : List Instr) : (s.withPending q).coils = s.coils := rfl
@[simp] theorem State.withPending_thermal (q : List Instr) : (s.withPending q).thermal = s.thermal := rfl
@[simp] theorem State.withPending_switches (q : List Instr) : (s.withPending q).switches = s.switches := rfl
@[simp] theorem State.withPending_reflex (q : List Instr) : (s.withPending q).reflex = s.reflex := rfl
@[simp] theorem State.withPending_lamps (q : List Instr) : (s.withPending q).lamps = s.lamps := rfl
@[simp] theorem State.withPending_bus (q : List Instr) : (s.withPending q).bus = s.bus := rfl
@[simp] theorem State.withPending_rail (q : List Instr) : (s.withPending q).rail = s.rail := rfl
@[simp] theorem State.withPending_faultLine (q : List Instr) : (s.withPending q).faultLine = s.faultLine := rfl
@[simp] theorem State.withPending_service (q : List Instr) : (s.withPending q).service = s.service := rfl
@[simp] theorem State.withPending_freeIndex (q : List Instr) : (s.withPending q).freeIndex = s.freeIndex := rfl
@[simp] theorem State.withPending_pending (q : List Instr) : (s.withPending q).pending = q := rfl

end Sys2Proof.Machine
end

