-- ==== Sys2Proof/Laws/Ops.lean ====
section
/-! SUPPORT. What the shared operations do, said once each: the marks, the fire queue, the channels, the requests and
the lamps.  A frame lemma `…_framed` names the blocks an operation may change. -/

namespace Sys2Proof.Machine

/-! ### Frames -/

theorem Framed.refl (l : List Block) (s : State) : Framed l s s :=
  ⟨rfl, fun b _ => by cases b <;> rfl⟩

theorem Block.same_trans {b : Block} {s t u : State} (h : b.same s t) (k : b.same t u) : b.same s u := by
  cases b <;> simp only [Block.same] at * <;> exact k.trans h

theorem Framed.trans {l : List Block} {s t u : State} (h : Framed l s t) (k : Framed l t u) : Framed l s u :=
  ⟨k.1.trans h.1, fun b hb => Block.same_trans (h.2 b hb) (k.2 b hb)⟩

theorem Framed.mono {l m : List Block} {s t : State} (h : Framed l s t) (hs : ∀ b ∈ l, b ∈ m) : Framed m s t :=
  ⟨h.1, fun b hb => h.2 b fun hl => hb (hs b hl)⟩

/-- A fold of steps that each keep a frame keeps it. -/
theorem Framed.foldl {α : Type} {l : List Block} (f : State → α → State) (xs : List α) (s : State)
    (h : ∀ s a, Framed l s (f s a)) : Framed l s (xs.foldl f s) := by
  induction xs generalizing s with
  | nil => exact Framed.refl l s
  | cons a xs ih => exact (h s a).trans (ih (f s a))

/-! ### The marks -/

theorem raise_eq (e : StickyEvent) (s : State) :
    raise e s = { s with service := { s.service with events := s.service.events ||| e.mask
                                                     raised := s.service.raised ||| e.mask } } := rfl

theorem count_eq (c : Counter) (s : State) :
    count c s = { s with service := { s.service with counters := counted c.index s.service.counters } } := rfl

theorem promptScan_eq (s : State) : promptScan s = { s with sched := { s.sched with scanDue := true } } := rfl

theorem markDraw_eq (s : State) : markDraw s = { s with bus := markedIf true s } := by
  unfold markDraw markedIf
  cases h : mayMark s <;> simp [State.onBus]

theorem noteDraw_eq (a b : State) :
    noteDraw a b =
      { b with
        sched := { b.sched with scanDue := b.sched.scanDue || decide (b.sched.committed ≠ a.sched.committed) }
        bus := markedIf (decide (reportedDraw b ≠ reportedDraw a)) b } := by
  unfold noteDraw
  by_cases hc : b.sched.committed = a.sched.committed <;> by_cases hd : reportedDraw b = reportedDraw a
  · have hc' : decide (b.sched.committed ≠ a.sched.committed) = false := by simp [hc]
    have hd' : decide (reportedDraw b ≠ reportedDraw a) = false := by simp [hd]
    rw [if_pos hc, if_pos hd, hc', hd']
    simp only [markedIf, Bool.or_false, Bool.false_and]
  · have hc' : decide (b.sched.committed ≠ a.sched.committed) = false := by simp [hc]
    have hd' : decide (reportedDraw b ≠ reportedDraw a) = true := by simp [hd]
    rw [if_pos hc, if_neg hd, hc', hd', markDraw_eq]
    simp only [markedIf, Bool.or_false]
  · have hc' : decide (b.sched.committed ≠ a.sched.committed) = true := by simp [hc]
    have hd' : decide (reportedDraw b ≠ reportedDraw a) = false := by simp [hd]
    rw [if_neg hc, if_pos hd, hc', hd']
    simp only [markedIf, Bool.or_true, Bool.or_false, Bool.false_and]
    rfl
  · have hc' : decide (b.sched.committed ≠ a.sched.committed) = true := by simp [hc]
    have hd' : decide (reportedDraw b ≠ reportedDraw a) = true := by simp [hd]
    rw [if_neg hc, if_neg hd, hc', hd', markDraw_eq]
    simp only [markedIf, Bool.or_true]
    rfl

theorem raise_framed (e : StickyEvent) (s : State) : Framed [.service] s (raise e s) :=
  ⟨rfl, fun b hb => by cases b <;> first | rfl | simp at hb⟩

theorem count_framed (c : Counter) (s : State) : Framed [.service] s (count c s) :=
  ⟨rfl, fun b hb => by cases b <;> first | rfl | simp at hb⟩

theorem promptScan_framed (s : State) : Framed [.sched] s (promptScan s) :=
  ⟨rfl, fun b hb => by cases b <;> first | rfl | simp at hb⟩

theorem markDraw_framed (s : State) : Framed [.bus] s (markDraw s) := by
  rw [markDraw_eq]
  exact ⟨rfl, fun b hb => by cases b <;> first | rfl | simp at hb⟩

theorem noteDraw_framed (a b : State) : Framed [.sched, .bus] b (noteDraw a b) := by
  rw [noteDraw_eq]
  exact ⟨rfl, fun b hb => by cases b <;> first | rfl | simp at hb⟩

/-! ### The fire queue -/

/-- R6: the place of a new entry. -/
theorem insertEntry_eq (prio : CoilNo → Nat) (e : Entry) (q : List Entry) :
    insertEntry prio e q =
      q.takeWhile (fun x => decide (prio x.coil ≤ prio e.coil)) ++ e ::
        q.dropWhile (fun x => decide (prio x.coil ≤ prio e.coil)) := by
  induction q with
  | nil => rfl
  | cons x xs ih =>
    by_cases h : prio e.coil < prio x.coil
    · simp [insertEntry, h, Nat.not_le.mpr h]
    · simp [insertEntry, h, Nat.not_lt.mp h, ih]

theorem insertEntry_length (prio : CoilNo → Nat) (e : Entry) (q : List Entry) :
    (insertEntry prio e q).length = q.length + 1 := by
  induction q with
  | nil => rfl
  | cons x xs ih => by_cases h : prio e.coil < prio x.coil <;> simp [insertEntry, h, ih]

theorem mem_dropEntry {c : CoilNo} {q : List Entry} {e : Entry} : e ∈ dropEntry c q ↔ e ∈ q ∧ e.coil ≠ c := by
  simp [dropEntry]

theorem createEntry_framed (c : CoilNo) (k : EntryKind) (n : Nat) (o : Origin) (s : State) :
    Framed [.sched] s (createEntry c k n o s) :=
  ⟨rfl, fun b hb => by cases b <;> first | rfl | simp at hb⟩

theorem onSched_framed (f : Scheduler → Scheduler) (s : State) : Framed [.sched] s (s.onSched f) :=
  ⟨rfl, fun b hb => by cases b <;> first | rfl | simp at hb⟩

theorem onCoils_framed (f : Vector CoilChannel 16 → Vector CoilChannel 16) (s : State) :
    Framed [.coils] s (s.onCoils f) :=
  ⟨rfl, fun b hb => by cases b <;> first | rfl | simp at hb⟩

theorem onRetained_framed (f : Retained → Retained) (s : State) : Framed [.retained] s (s.onRetained f) :=
  ⟨rfl, fun b hb => by cases b <;> first | rfl | simp at hb⟩

theorem onThermal_framed (f : Thermal → Thermal) (s : State) : Framed [.thermal] s (s.onThermal f) :=
  ⟨rfl, fun b hb => by cases b <;> first | rfl | simp at hb⟩

theorem onLamps_framed (f : LampUnit → LampUnit) (s : State) : Framed [.lamps] s (s.onLamps f) :=
  ⟨rfl, fun b hb => by cases b <;> first | rfl | simp at hb⟩

theorem onFaultLine_framed (f : FaultLine → FaultLine) (s : State) : Framed [.faultLine] s (s.onFaultLine f) :=
  ⟨rfl, fun b hb => by cases b <;> first | rfl | simp at hb⟩

theorem removeEntry_framed (c : CoilNo) (s : State) : Framed [.sched, .bus] s (removeEntry c s) :=
  (((onSched_framed _ s).trans (promptScan_framed _)).mono (by simp)).trans (noteDraw_framed s _)

theorem flushQueue_framed (s : State) : Framed [.sched, .bus] s (flushQueue s) :=
  (((onSched_framed _ s).trans (promptScan_framed _)).mono (by simp)).trans (noteDraw_framed s _)

theorem withdraw_framed (s : State) : Framed [.sched, .bus] s (withdraw s) := by
  unfold withdraw
  split
  · exact Framed.refl _ s
  · exact (((onSched_framed _ s).trans (promptScan_framed _)).mono (by simp)).trans (noteDraw_framed s _)

theorem removeCounted_framed (n : Counter) (c : CoilNo) (s : State) :
    Framed [.sched, .bus, .service] s (removeCounted n c s) := by
  unfold removeCounted
  split
  · exact ((removeEntry_framed c s).mono (by simp)).trans ((count_framed n _).mono (by simp))
  · exact Framed.refl _ s

/-! ### The coil channels -/

/-- R23, Table 2-2: what a change of one channel does, whole. -/
theorem moveRaw_coils (c : CoilNo) (new : CoilChannel) (s : State) :
    (moveRaw c new s).coils =
      s.coils.set c { new with offTimer := offTimerAfter s.coils[c] new s.pins.sense[c] } := by
  unfold moveRaw
  simp only []
  split <;> rfl

theorem moveRaw_committed (c : CoilNo) (new : CoilChannel) (s : State) :
    (moveRaw c new s).sched.committed =
      s.sched.committed + drawOf s.settings.coils[c] new - drawOf s.settings.coils[c] s.coils[c] := by
  unfold moveRaw
  simp only []
  split <;> rfl

theorem moveRaw_queue (c : CoilNo) (new : CoilChannel) (s : State) :
    (moveRaw c new s).sched.queue = s.sched.queue ∧ (moveRaw c new s).sched.announce = s.sched.announce := by
  unfold moveRaw
  simp only []
  split <;> exact ⟨rfl, rfl⟩

theorem moveRaw_framed (c : CoilNo) (new : CoilChannel) (s : State) :
    Framed [.coils, .sched] s (moveRaw c new s) := by
  unfold moveRaw
  simp only []
  split
  · exact (((onCoils_framed _ s).mono (by simp)).trans ((onSched_framed _ _).mono (by simp))).trans
      ((promptScan_framed _).mono (by simp))
  · exact ((onCoils_framed _ s).mono (by simp)).trans ((onSched_framed _ _).mono (by simp))

theorem moveChannel_coils (c : CoilNo) (new : CoilChannel) (s : State) :
    (moveChannel c new s).coils =
      s.coils.set c { new with offTimer := offTimerAfter s.coils[c] new s.pins.sense[c] } := by
  unfold moveChannel
  rw [noteDraw_eq]
  exact moveRaw_coils c new s

theorem moveChannel_committed (c : CoilNo) (new : CoilChannel) (s : State) :
    (moveChannel c new s).sched.committed =
      s.sched.committed + drawOf s.settings.coils[c] new - drawOf s.settings.coils[c] s.coils[c] := by
  unfold moveChannel
  rw [noteDraw_eq]
  exact moveRaw_committed c new s

theorem moveChannel_framed (c : CoilNo) (new : CoilChannel) (s : State) :
    Framed [.coils, .sched, .bus] s (moveChannel c new s) :=
  ((moveRaw_framed c new s).mono (by simp)).trans ((noteDraw_framed s _).mono (by simp))

theorem flipperKick_framed (c : CoilNo) (s : State) : Framed [.coils, .sched, .bus] s (flipperKick c s) :=
  moveChannel_framed c _ s

theorem restEnds_framed (c : CoilNo) (s : State) : Framed [.coils, .sched, .bus] s (restEnds c s) := by
  unfold restEnds
  simp only []
  split
  · exact flipperKick_framed c s
  · exact moveChannel_framed c _ s

theorem enterRest_framed (c : CoilNo) (s : State) : Framed [.coils, .sched, .bus] s (enterRest c s) := by
  unfold enterRest
  simp only []
  split
  · exact (moveChannel_framed c _ s).trans (restEnds_framed c _)
  · exact moveChannel_framed c _ s

theorem rechooseDuty_framed (c : CoilNo) (s : State) : Framed [.coils] s (rechooseDuty c s) := by
  unfold rechooseDuty
  split
  · exact onCoils_framed _ s
  · exact Framed.refl _ s

theorem rechooseAll_framed (s : State) : Framed [.coils] s (rechooseAll s) :=
  Framed.foldl _ _ s fun s c => rechooseDuty_framed c s

theorem latchKind_framed (c : CoilNo) (k : FaultKind) (s : State) : Framed [.faultLine] s (latchKind c k s) := by
  unfold latchKind
  split
  · exact Framed.refl _ s
  · exact onFaultLine_framed _ s

theorem reportFault_framed (c : CoilNo) (k : FaultKind) (s : State) :
    Framed [.sched, .bus, .service, .faultLine] s (reportFault c k s) :=
  (((raise_framed .driverFault s).mono (by simp)).trans ((latchKind_framed c k _).mono (by simp))).trans
    ((removeCounted_framed .refused c _).mono (by simp))

theorem enterFault_framed (c : CoilNo) (k : FaultKind) (s : State) :
    Framed [.coils, .sched, .bus, .service, .faultLine] s (enterFault c k s) :=
  ((moveChannel_framed c _ s).mono (by simp)).trans ((reportFault_framed c k _).mono (by simp))

theorem keptAtTrip_iff (c : CoilNo) (s : State) : keptAtTrip c s = true ↔
    s.thermal.firstInterval = true ∧ s.settings.coils[c].trip ≤ s.retained.heat[c] := by simp [keptAtTrip]

theorem enterLockout_framed (c : CoilNo) (s : State) :
    Framed [.coils, .sched, .bus, .service] s (enterLockout c s) :=
  (((moveChannel_framed c _ s).mono (by simp)).trans ((removeCounted_framed .lockedOut c _).mono (by simp))).trans
    ((raise_framed .lockout _).mono (by simp))

theorem classifyLockout_framed (kept : Bool) (c : CoilNo) (s : State) :
    Framed [.coils, .sched, .bus, .service] s (classifyLockout kept c s) := by
  unfold classifyLockout
  simp only []
  split
  · exact enterLockout_framed c s
  · split
    · exact (moveChannel_framed c _ s).mono (by simp)
    · exact Framed.refl _ s

theorem heatChannel_framed (c : CoilNo) (s : State) : Framed [.retained, .sched] s (heatChannel c s) := by
  unfold heatChannel
  simp only []
  split
  · exact (onRetained_framed _ s).mono (by simp)
  · exact ((onRetained_framed _ s).mono (by simp)).trans ((promptScan_framed _).mono (by simp))

theorem classifyLevel_framed (c : CoilNo) (s : State) : Framed [.thermal, .coils] s (classifyLevel c s) := by
  unfold classifyLevel
  simp only []
  split
  · exact Framed.refl _ s
  · exact ((onThermal_framed _ s).mono (by simp)).trans ((rechooseDuty_framed c _).mono (by simp))

theorem thermalChannel_framed (c : CoilNo) (s : State) :
    Framed [.retained, .thermal, .coils, .sched, .bus, .service] s (thermalChannel c s) :=
  (((heatChannel_framed c s).mono (by simp)).trans ((classifyLockout_framed _ c _).mono (by simp))).trans
    ((classifyLevel_framed c _).mono (by simp))

/-- Every channel of one expiry is judged by the same mark of the first interval. -/
theorem thermalChannel_firstInterval (c : CoilNo) (s : State) :
    (thermalChannel c s).thermal.firstInterval = s.thermal.firstInterval := by
  have h : ∀ u, (classifyLevel c u).thermal.firstInterval = u.thermal.firstInterval := by
    intro u
    unfold classifyLevel
    simp only []
    split
    · rfl
    · rw [((rechooseDuty_framed c _).2 .thermal (by simp) : _ = _)]; rfl
  have k : ∀ b u, (classifyLockout b c u).thermal = u.thermal := fun b u =>
    (classifyLockout_framed b c u).2 .thermal (by simp)
  have g : (heatChannel c s).thermal = s.thermal := (heatChannel_framed c s).2 .thermal (by simp)
  rw [thermalChannel, h, k, g]

theorem endChannel_framed (c : CoilNo) (s : State) : Framed [.coils, .sched, .bus] s (endChannel c s) := by
  unfold endChannel
  split
  · exact moveChannel_framed c _ s
  · exact Framed.refl _ s

theorem endAllChannels_framed (s : State) : Framed [.coils, .sched, .bus] s (endAllChannels s) :=
  Framed.foldl _ _ s fun s c => endChannel_framed c s

theorem endQueuedChannels_framed (s : State) : Framed [.coils, .sched, .bus] s (endQueuedChannels s) := by
  refine Framed.foldl _ _ s fun s c => ?_
  split
  · exact Framed.refl _ s
  · exact endChannel_framed c s

theorem startKickRaw_framed (c : CoilNo) (s : State) :
    Framed [.coils, .sched, .service] s (startKickRaw c s) :=
  (((onSched_framed _ s).mono (by simp)).trans ((count_framed .delivered _).mono (by simp))).trans
    ((moveRaw_framed c _ _).mono (by simp))

theorem startKick_framed (c : CoilNo) (s : State) : Framed [.coils, .sched, .service, .bus] s (startKick c s) :=
  ((startKickRaw_framed c s).mono (by simp)).trans ((noteDraw_framed s _).mono (by simp))

/-! ### Coil requests -/

theorem pulseRequest_framed (c : CoilNo) (n : Nat) (o : Origin) (s : State) :
    Framed [.sched, .service] s (pulseRequest c n o s).1 := by
  unfold pulseRequest
  split
  · exact ((onSched_framed _ s).mono (by simp)).trans ((count_framed .merged _).mono (by simp))
  · split
    · exact (createEntry_framed c .pulses n o s).mono (by simp)
    · exact ((count_framed .queueFull s).trans (raise_framed .queueFull _)).mono (by simp)

theorem engageRequest_framed (c : CoilNo) (o : Origin) (s : State) :
    Framed [.sched, .service] s (engageRequest c o s).1 := by
  unfold engageRequest
  split
  · exact (count_framed .merged s).mono (by simp)
  · split
    · exact (count_framed .merged s).mono (by simp)
    · split
      · exact (createEntry_framed c .engage 1 o s).mono (by simp)
      · exact ((count_framed .queueFull s).trans (raise_framed .queueFull _)).mono (by simp)

theorem releaseRequest_framed (c : CoilNo) (s : State) :
    Framed [.coils, .sched, .bus] s (releaseRequest c s).1 := by
  unfold releaseRequest
  split
  · exact (removeEntry_framed c s).mono (by simp)
  · split
    · exact enterRest_framed c s
    · exact Framed.refl _ s

theorem request_framed (c : CoilNo) (a : CoilAction) (n : Nat) (o : Origin) (s : State) :
    Framed [.sched, .coils, .bus, .service] s (request c a n o s).1 := by
  have hc (k : Counter) : Framed [.sched, .coils, .bus, .service] s (count k s) := (count_framed k s).mono (by simp)
  unfold request
  split
  · exact hc _
  · split
    · exact hc _
    · split
      · exact hc _
      · split
        · exact hc _
        · cases a
          · exact (pulseRequest_framed c n o s).mono (by simp)
          · exact (engageRequest_framed c o s).mono (by simp)
          · exact (releaseRequest_framed c s).mono (by simp)

/-! ### Lamps -/

theorem followDemand_framed (n : LampNo) (s : State) : Framed [.lamps] s (followDemand n s) := by
  unfold followDemand
  simp only []
  split
  · split
    · split
      · exact onLamps_framed _ s
      · exact Framed.refl _ s
    · exact onLamps_framed _ s
  · exact onLamps_framed _ s

theorem lampCommand_framed (n : LampNo) (cmd : ModeCommand) (s : State) :
    Framed [.lamps] s (lampCommand n cmd s) :=
  (onLamps_framed _ s).trans (followDemand_framed n _)

theorem commandLamps_framed (ns : List LampNo) (mode half count : Nat) (f : Bool) (s : State) :
    Framed [.lamps] s (commandLamps ns mode half count f s) := by
  refine Framed.foldl _ _ s fun s n => ?_
  split
  · exact Framed.refl _ s
  · exact lampCommand_framed n _ s

/-! ### The line and the passing of time -/

@[simp] theorem Wire.clashed_frame (w : Wire) : w.clashed.frame = w.frame := by
  unfold Wire.clashed; split <;> rfl

@[simp] theorem Wire.clashed_timer (w : Wire) : w.clashed.timer = w.timer := by
  unfold Wire.clashed; split <;> rfl

/-- Of the bytes that a second station drives, the first decides; none does after the last byte (R118). -/
theorem Wire.clashed_clashAt (w : Wire) :
    w.clashed.clashAt = if w.timer.elapsed < w.timer.limit ∧ w.clashAt = none
      then some ((w.timer.elapsed / byteTime + 1) * byteTime) else w.clashAt := by
  unfold Wire.clashed; split <;> rfl

theorem startBit_framed (s : State) : Framed [.bus, .service] s (startBit s) := by
  unfold startBit endFragment
  split
  · split
    · exact ⟨rfl, by rintro (_ | _) <;> intro h <;> first | rfl | simp at h⟩
    · split
      · exact ⟨rfl, by rintro (_ | _) <;> intro h <;> first | rfl | simp at h⟩
      · exact ⟨rfl, by rintro (_ | _) <;> intro h <;> first | rfl | simp at h⟩
  · exact Framed.refl _ s

@[simp] theorem elapse_coils (s : State) (c : CoilNo) :
    (elapse s).coils[c] = s.coils[c].elapse s.pins.sense[c] := by
  simp [elapse]

@[simp] theorem elapse_records (s : State) (n : SwitchNo) :
    (elapse s).switches.records[n] = s.switches.records[n].elapse := by
  simp [elapse]

theorem elapse_lamps (s : State) (n : LampNo) :
    (elapse s).lamps.lamps[n] = s.lamps.lamps[n].elapse (decide (pwmPeriod ≤ s.lamps.pwmPhase + 1))
      (lampDuty s.link.state s.settings.lamps[n] s.lamps.lamps[n].stage) := by
  simp [elapse, elapseLamps]

end Sys2Proof.Machine
end

