-- ==== Sys2Proof/WellFormed.lean ====
section
/-! DEFINITION. Well-formed commands: the operands a step can come with.  A pass of the configuration image has
634 bytes (R164), a row of a frame comes with bytes that are such a frame (R122, Table 8-2, Table 11-4), a peer
has a number 1–30 (R145).  `exec` does not rest on it: a command whose event does not occur changes nothing. -/

namespace Sys2Proof

open Machine

/-- The bytes are a good frame of kind `kind`. -/
def goodOfKind (kind : Nat) (rx : List Byte) : Bool :=
  match classify rx with
  | .good f => decide (f.kind = kind)
  | _ => false

/-- The bytes are a good SVC_REQ frame with request code `code`. -/
def goodRequest (code : Nat) (rx : List Byte) : Bool :=
  match classify rx with
  | .good f => decide (f.kind = 5) && decide (byteAt f.payload 0 = code)
  | _ => false

/-- The bytes are a good SVC_REQ frame whose code is not in Table 11-4. -/
def goodUnknownRequest (rx : List Byte) : Bool :=
  match classify rx with
  | .good f => decide (f.kind = 5) && (decide (byteAt f.payload 0 = 0) || decide (10 < byteAt f.payload 0))
  | _ => false

/-- The bytes are a good frame. -/
def goodAny (rx : List Byte) : Bool :=
  match classify rx with
  | .good _ => true
  | _ => false

/-- A well-formed command. -/
def Instr.wf : Instr → Bool
  | .powerOn => true
  | .supplyDip => true
  | .powerUpHoldEnd _ => true
  | .configReadError => true
  | .configRetryWaitExpiry => true
  | .configPassEnd image => decide (image.length = 634)
  | .stationClockTick => true
  | .switchInputChange _ _ => true
  | .switchAdoption _ => true
  | .switchEdge _ => true
  | .scan => true
  | .announceTimerExpiry => true
  | .waitLimitExpiry _ => true
  | .kickTimerExpiry _ => true
  | .holdLimitExpiry _ => true
  | .restTimerExpiry _ => true
  | .kickOpenCheck _ => true
  | .senseReadingChange _ _ => true
  | .offCurrentTimerExpiry _ => true
  | .thermalIntervalExpiry => true
  | .lampHalfExpiry _ => true
  | .lampPhaseExpiry => true
  | .warmUpExpiry _ => true
  | .railReadingChange _ => true
  | .settleTimerExpiry => true
  | .sagQualifyExpiry => true
  | .sagClearExpiry => true
  | .faultLineAsserted => true
  | .faultLineReleased => true
  | .releaseSettleExpiry => true
  | .badFrame rx => decide (classify rx = .bad)
  | .fragment => true
  | .filteredFrame rx => goodAny rx
  | .ownNumberFrame rx => goodAny rx
  | .drawFrame rx => goodOfKind 1 rx
  | .switchFrame rx => goodOfKind 2 rx
  | .fireFrame rx => goodOfKind 3 rx
  | .lampFrame rx => goodOfKind 4 rx
  | .status rx => goodRequest 1 rx
  | .readEvents rx => goodRequest 2 rx
  | .readCounters rx => goodRequest 3 rx
  | .readPeer rx => goodRequest 4 rx
  | .readCoil rx => goodRequest 5 rx
  | .readSwitch rx => goodRequest 6 rx
  | .testPulse rx => goodRequest 7 rx
  | .setLamp rx => goodRequest 8 rx
  | .clearFault rx => goodRequest 9 rx
  | .restart rx => goodRequest 10 rx
  | .svcUnknownRequest rx => goodUnknownRequest rx
  | .txSeriesStart => true
  | .txWaitExpiry => true
  | .txAttemptSuccess => true
  | .txAttemptFailure => true
  | .txAbandon => true
  | .beatTimerExpiry => true
  | .listenWindowExpiry => true
  | .announcedTimerExpiry => true
  | .linkLost => true
  | .peerStaleExpiry n => decide (1 ≤ n) && decide (n ≤ 30)
  | .peerRemovalExpiry n => decide (1 ≤ n) && decide (n ≤ 30)
  | .qualityWindowEnd => true
  | .validityMarkLost => true
  | .startBitOnLine => true

end Sys2Proof
end

