-- ==== Sys2Proof/Tests/Slice0.lean ====
section
/-! SUPPORT. Tests.  Expected values come from the spec's worked sequences and tables, named at each test; the
`test_witness_…` theorems show states and operands that meet the hypotheses of the statements, clause by clause. -/

namespace Sys2Proof.Tests

set_option Elab.async false

open Sys2Proof Sys2Proof.Machine

/-! ### Well-formedness: one ill-formed command for each check -/

/-- A frame of the line. -/
def fr (src dst kind : Nat) (payload : List Byte) : Frame := { src := src, dst := dst, kind := kind, payload := payload }

/-- A broadcast LAMP frame, lamp 255, FLASH, final ON, count 3, default half-period. -/
def lampAll : Frame := fr 31 0 4 [0xff#8, 0x3a#8, 0#8]

/-- A request of the service tool to station 6. -/
def req (l : List Byte) : Frame := fr 31 6 5 l

theorem test_wf_image_length : (Instr.configPassEnd (List.replicate 633 0)).wf = false := by decide +kernel
theorem test_wf_bad_frame_that_is_good : (Instr.badFrame lampAll.bytes).wf = false := by decide +kernel
theorem test_wf_filtered_frame_incomplete : (Instr.filteredFrame [0xC3#8]).wf = false := by decide +kernel
theorem test_wf_own_number_frame_incomplete : (Instr.ownNumberFrame []).wf = false := by decide +kernel
theorem test_wf_kind_of_frame :
    (Instr.drawFrame lampAll.bytes).wf = false ∧ (Instr.switchFrame lampAll.bytes).wf = false ∧
    (Instr.fireFrame lampAll.bytes).wf = false ∧ (Instr.lampFrame (req [1#8]).bytes).wf = false := by decide +kernel
theorem test_wf_request_code :
    (Instr.status (req [2#8]).bytes).wf = false ∧ (Instr.readEvents (req [1#8]).bytes).wf = false ∧
    (Instr.readCounters (req [1#8]).bytes).wf = false ∧ (Instr.readPeer (req [1#8]).bytes).wf = false ∧
    (Instr.readCoil (req [1#8]).bytes).wf = false ∧ (Instr.readSwitch (req [1#8]).bytes).wf = false ∧
    (Instr.testPulse (req [1#8]).bytes).wf = false ∧ (Instr.setLamp (req [1#8]).bytes).wf = false ∧
    (Instr.clearFault (req [1#8]).bytes).wf = false ∧ (Instr.restart (req [1#8]).bytes).wf = false ∧
    (Instr.svcUnknownRequest (req [1#8]).bytes).wf = false := by decide +kernel
theorem test_wf_peer_number :
    (Instr.peerStaleExpiry 0).wf = false ∧ (Instr.peerStaleExpiry 31).wf = false ∧
    (Instr.peerRemovalExpiry 0).wf = false ∧ (Instr.peerRemovalExpiry 31).wf = false := by decide
theorem test_wf_accepts :
    (Instr.lampFrame lampAll.bytes).wf = true ∧ (Instr.status (req [1#8]).bytes).wf = true ∧
    (Instr.peerStaleExpiry 30).wf = true := by decide +kernel

/-! ### Frames and the check (R119, R120, Tables 8-1 to 8-6) -/

/-- R120: "the check over the nine bytes 0x31 to 0x39 is 0x29B1". -/
theorem test_crc_check_value :
    crc [0x31#8, 0x32#8, 0x33#8, 0x34#8, 0x35#8, 0x36#8, 0x37#8, 0x38#8, 0x39#8] = 0x29B1#16 := by decide +kernel

/-- A SWITCH frame written out from Tables 8-1 and 8-4: station 4, switch 11, CLOSE, sequence 5. -/
def switchBytes : List Byte := [0xC3#8, 0x04#8, 0x00#8, 0x22#8, 0x0B#8, 0x85#8, 0x6D#8, 0x7B#8]
/-- A FIRE frame written out from Tables 8-1 and 8-5: source 31 to station 6, coil 12, PULSE, count 3. -/
def fireBytes : List Byte := [0xC3#8, 0x1F#8, 0x06#8, 0x32#8, 0x0C#8, 0x30#8, 0x8F#8, 0xCD#8]
/-- A DRAW frame written out from Tables 8-1 and 8-3: station 5, draw 10, reserve 0, ceiling 20, beat 10, ARMED,
RAIL_UP. -/
def drawBytes : List Byte :=
  [0xC3#8, 0x05#8, 0x00#8, 0x16#8, 0x0A#8, 0x00#8, 0x14#8, 0x0A#8, 0x03#8, 0x08#8, 0xBD#8, 0x2E#8]
/-- A LAMP frame written out from Tables 8-1 and 8-6: broadcast, lamp 255, FLASH, final ON, count 3. -/
def lampBytes : List Byte := [0xC3#8, 0x1F#8, 0x00#8, 0x43#8, 0xFF#8, 0x3A#8, 0x00#8, 0x01#8, 0xEA#8]
/-- A STATUS request written out from Tables 8-1 and 8-7. -/
def statusBytes : List Byte := [0xC3#8, 0x1F#8, 0x06#8, 0x51#8, 0x01#8, 0xD4#8, 0x86#8]

theorem test_frames_written_out :
    classify switchBytes = .good (fr 4 0 2 [0x0B#8, 0x85#8]) ∧ classify fireBytes = .good (fr 31 6 3 [0x0C#8, 0x30#8]) ∧
    classify drawBytes = .good (fr 5 0 1 [10#8, 0#8, 20#8, 10#8, 3#8, 8#8]) ∧
    classify lampBytes = .good lampAll ∧ classify statusBytes = .good (req [1#8]) := by decide +kernel

/-- R122: one bit changed in the check, in the length, in the sync. -/
theorem test_frames_broken :
    classify [0xC3#8, 0x1F#8, 0x06#8, 0x51#8, 0x01#8, 0xD4#8, 0x87#8] = .bad ∧
    classify [0xC3#8, 0x1F#8, 0x06#8, 0x5D#8, 0x01#8, 0xD4#8, 0x86#8] = .incomplete ∧
    classify [0xC2#8, 0x1F#8, 0x06#8, 0x51#8, 0x01#8, 0xD4#8, 0x86#8] = .incomplete := by decide +kernel

theorem test_destinations :
    destination 6 .armed (fr 4 0 2 [0x0B#8, 0x85#8]) = .switch ∧ destination 6 .armed (req [7#8]) = .service 7 ∧
    destination 6 .offline lampAll = .lamp ∧ destination 6 .armed (fr 6 0 4 []) = .ownNumber ∧
    destination 6 .armed (fr 4 0 3 [0#8, 0#8]) = .ignored ∧ destination 6 .armed (fr 4 7 3 [0#8, 0#8]) = .ignored := by
  decide

/-- Table 8-11. -/
theorem test_back_off_table :
    [1, 2, 3, 4, 5, 6, 7].map (backOff 5) = [16, 27, 6, 17, 28, 7, 18] ∧
    [1, 2, 3, 4, 5, 6, 7].map (backOff 9) = [28, 15, 2, 21, 8, 27, 14] := by decide

theorem test_no_word_spells_a_command : decodeTableWord 16 0xFFFF = none := rfl

theorem test_withFetchWord (s : State) : s.withFetchWord 8 3 = s := rfl

/-! ### A station of small settings: coils as in Table 1-6, coil 0 a flipper, budget as in Table 2-5 -/

/-- A PULSE coil of priority 1. -/
def pulseCfg : CoilSettings :=
  { cls := .pulse, priority := 1, holdSource := 31, draw := 8, kickTime := 10, duty := 4, holdLimit := 2,
    restTime := 3, waitLimit := 20, heatRate := 200, shift := 8, trip := 3000 }

/-- Coil 0: Table 3-6. -/
def flipperCfg : CoilSettings :=
  { pulseCfg with cls := .flipper, holdSource := 3, kickTime := 30, duty := 6, holdLimit := 10, restTime := 2 }

/-- The coils: 0 FLIPPER, 5 PULSE of priority 0, 9 LATCH of priority 2 and draw 12, the rest PULSE of priority 1. -/
def coilCfg (c : CoilNo) : CoilSettings :=
  if c = 0 then flipperCfg else if c = 5 then { pulseCfg with priority := 0 }
  else if c = 9 then { pulseCfg with cls := .latch, priority := 2, draw := 12 } else pulseCfg

/-- The lamps: 0–19 incandescent with glow 1 and brightness 12, 20–23 not (section 7.9). -/
def lampCfg (n : LampNo) : LampSettings :=
  if n.val < 20 then { incandescent := true, glow := 1, brightness := 12, halfPeriod := 25, initial := .dark }
  else { incandescent := false, glow := 0, brightness := 16, halfPeriod := 25, initial := .dark }

def config : Settings :=
  { capacity := 64, headroom := 4, ceiling := 48, allowance := 12, reserve := 24, beat := 10, quality := 10,
    vOn := 80, vSag := 90
    statusMask := { notArmed := true, railNotUp := true, safe := true, lockout := true, fault := true,
                    degraded := true }
    causeMask := { short := true, stuck := true, opened := true, duplicate := true }
    coils := Vector.ofFn coilCfg
    switches := Vector.replicate 32 { closeDebounce := 3, openDebounce := 8, broadcast := true, invert := false }
    lamps := Vector.ofFn lampCfg }

/-- Station 6, ARMED, rail UP, drive state NORMAL, everything idle. -/
def armed : State :=
  { State.reset with
    settings := config
    pins := { Pins.initial with rail := 100 }
    startUp := { hold := none, strapNumber := 6, loader := .ended, outcome := some .accepted }
    link := { LinkUnit.reset with state := .armed }
    rail := { RailMonitor.reset with state := .up }
    faultLine := { FaultLine.reset with drive := .normal, watching := true }
    bus := { Bus.reset with started := true }
    thermal := { Thermal.reset with interval := some (startTimer (ms 1)) }
    switches := { SwitchUnit.reset with
      records := Vector.replicate 32 { SwitchRecord.reset with level := .opened, edgeCount := 41, sequence := 9 } } }

/-- A timer that has reached its limit. -/
def done (limit : Nat) : Countup := { elapsed := limit, limit := limit }

/-- `s` with channel `c` changed. -/
def onCoil (c : CoilNo) (f : CoilChannel → CoilChannel) (s : State) : State :=
  s.onCoils fun v => v.set c (f v[c])

/-- The link in another state. -/
def linkIn (l : LinkState) (s : State) : State := s.onLink fun u => { u with state := l }

/-- The next state of a command. -/
def run (i : Instr) (s : State) : State :=
  match exec i s with
  | .next t => t
  | .refused _ => s

/-- A reception of `armed` is about to end. -/
def listening : State := armed.onBus fun b => { b with receiver := .receiving }

/-- An entry of the queue. -/
def entry (c : CoilNo) (k : EntryKind) (p : Nat) (o : Origin) : Entry :=
  { coil := c, kind := k, pulses := p, origin := o, phase := .queued, wait := startTimer (cs 20) }

/-- Position, coil and pulses of the queue, front first. -/
def queueOf (s : State) : List (CoilNo × Nat) := s.sched.queue.map fun e => (e.coil, e.pulses)

/-! ### Section 1.8: the fire queue -/

def busy1 : State := run (.fireFrame fireBytes) listening
def busy2 : State := (request 2 .pulse 1 .localSwitch busy1).1
def busy3 : State := (request 9 .engage 1 .fireFrame busy2).1
def busy4 : State := (request 5 .pulse 1 .remoteSwitch busy3).1
def busy5 : State := (request 12 .pulse 14 .fireFrame busy4).1
def busy6 : State := (request 9 .pulse 1 .fireFrame busy5).1

theorem test_queue_event1 : queueOf busy1 = [(12, 3)] ∧ busy1.service.counters[0] = 1 := by decide +kernel
theorem test_queue_event4 : queueOf busy4 = [(5, 1), (12, 3), (2, 1), (9, 1)] := by decide +kernel
theorem test_queue_event5 :
    queueOf busy5 = [(5, 1), (12, 15), (2, 1), (9, 1)] ∧ busy5.service.counters[6] = 1 := by decide +kernel
theorem test_queue_event6 :
    (request 9 .pulse 1 .fireFrame busy5).2 = .refused ∧ busy6.service.counters[14] = 1 ∧
    busy6.sched = busy5.sched := by decide +kernel
theorem test_queue_event11 :
    (request 9 .release 1 .fireFrame busy6).2 = .cancelled ∧
    queueOf (request 9 .release 1 .fireFrame busy6).1 = [(5, 1), (12, 15), (2, 1)] := by decide +kernel

/-! ### Section 2.7: admission.  Coils 4, 6 and 10 are not distinguished by priority here -/

def peerFive : Peer :=
  { station := 5, stale := false, draw := 10, reserve := 0, ceiling := 20, beat := 10, linkCode := 3, flags := 8
    silence := startTimer (cs 200) }
def peerSeven : Peer := { peerFive with station := 7, stale := true, draw := 0, ceiling := 16 }
def table27 : State := armed.onLink fun l => { l with peers := [peerFive, peerSeven] }
def admit1 : State := run .scan (request 4 .pulse 1 .localSwitch table27).1
def admit3 : State := run .scan (request 6 .pulse 1 .fireFrame admit1).1
def draw7 : Frame := fr 7 0 1 [2#8, 0#8, 16#8, 10#8, 3#8, 8#8]
def admit4 : State :=
  run .scan (run (.drawFrame draw7.bytes) (admit3.onBus fun b => { b with receiver := .receiving }))

theorem test_peer_sum : peerSum table27 = 26 ∧ budget table27 = 48 := by decide
/-- Event 1: the allowance path. -/
theorem test_admit_event1 :
    admit1.coils[4].state = .kick ∧ admit1.sched.committed = 8 ∧ admit1.sched.queue = [] ∧
    admit1.bus.drawPending = true ∧ admit1.service.counters[5] = 1 := by decide +kernel
/-- Event 3: rail fit 70 against 64 fails. -/
theorem test_admit_event3 : admit3.coils[6].state = .idle ∧ admit3.sched.announce = none := by decide +kernel
/-- Event 4: the peer is PRESENT again, P = 12, and coil 6 goes beyond the allowance. -/
theorem test_admit_event4 :
    peerSum admit4 = 12 ∧ admit4.sched.announce.map Announce.coil = some 6 ∧ reportedDraw admit4 = 16 ∧
    admit4.bus.drawPending = true := by decide +kernel

/-! ### Section 3.7: a flipper under heat -/

/-- Switch `n` has timed an edge. -/
def edged (n : SwitchNo) (closed : Bool) (s : State) : State :=
  s.onSwitches fun u => u.withRecord n { u.records[n] with
    level := if closed then .opened else .closed, qualify := some { closed := closed, timer := done (ms 3) } }
def kickDone (c : CoilNo) (s : State) : State :=
  onCoil c (fun ch => { ch with kickTimer := ch.kickTimer.map fun t => done t.limit }) s
def hot (c : CoilNo) (s : State) : State := s.onThermal fun t => { t with levels := t.levels.set c .hot }

def flip1 : State := run (.switchEdge 3) (edged 3 true armed)
def flip2 : State := run (.kickTimerExpiry 0) (kickDone 0 flip1)
def flip7 : State := run (.switchEdge 3) (edged 3 false flip2)
def restDone (s : State) : State := onCoil 0 (fun ch => { ch with restTimer := some (done (ms 20)) }) s
def flip9 : State :=
  run (.restTimerExpiry 0) (hot 0 (restDone (flip7.onSwitches fun u =>
    u.withRecord 3 { u.records[3] with level := .closed })))

theorem test_flipper_press :
    flip1.coils[0].state = .kick ∧ flip1.coils[0].kickTimer = some (startTimer (ms 30)) := by decide +kernel
theorem test_flipper_hold :
    flip2.coils[0].state = .hold ∧ flip2.coils[0].duty = some 6 ∧ flip2.sched.committed = 0 := by decide +kernel
theorem test_flipper_release : flip7.coils[0].state = .rest := by decide +kernel
/-- Event 9: the quick re-flip at level HOT runs floor(30/2) = 15 ms. -/
theorem test_flipper_reflip : flip9.coils[0].kickTimer = some (startTimer (ms 15)) := by decide +kernel
/-- Table 3-7: duties 6, 3, 3, 1, 1. -/
theorem test_flipper_duties :
    [flipperDuty 6 .normal .up, flipperDuty 6 .warm .up, flipperDuty 6 .warm .sag, flipperDuty 6 .hot .sag,
      flipperDuty 6 .hot .up] = [6, 3, 3, 1, 1] := by decide

/-! ### Section 3.8: a shorted magnet -/

def magnet1 : State := startKick 9 (request 9 .engage 1 .fireFrame armed).1
def magnet2 : State := run (.kickTimerExpiry 9) (kickDone 9 magnet1)
def magnet3 : State := run (.senseReadingChange 9 .over) magnet2
def offDone (s : State) : State := onCoil 9 (fun ch => { ch with offTimer := some (done (ms 5)) }) s
def magnet4 : State := run (.offCurrentTimerExpiry 9) (offDone magnet3)
def clear9 : Frame := req [9#8, 9#8]
def magnet6 : State := run (.clearFault clear9.bytes) (magnet4.onBus fun b => { b with receiver := .receiving })

theorem test_magnet_hold :
    magnet1.sched.committed = 12 ∧ magnet2.coils[9].state = .hold ∧ magnet2.sched.committed = 3 ∧
    magnet2.coils[9].duty = some 4 := by decide +kernel
theorem test_magnet_short :
    magnet3.coils[9].faultKind = some .short ∧ magnet3.sched.committed = 0 ∧ magnet3.service.events = 8 ∧
    faultLineDriven magnet3 = true := by decide +kernel
theorem test_magnet_stuck : magnet4.coils[9].faultKind = some .stuck ∧ magnet4.coils[9].state = .fault := by
  decide +kernel
theorem test_magnet_clear :
    magnet6.coils[9].state = .idle ∧ magnet6.coils[9].offTimer = some (startTimer (ms 5)) ∧
    faultLineDriven magnet6 = false ∧ magnet6.sched.scanDue = true := by decide +kernel

/-! ### Chapter 4: Tables 4-6 to 4-8 -/

/-- Channel 6 in KICK with T as given, one interval later. -/
def heated (t : Nat) : State :=
  let s := onCoil 6 (fun ch => ch.kicked 10) armed
  run .thermalIntervalExpiry ((s.onRetained fun r => { r with heat := r.heat.set 6 t }).onThermal fun u =>
    { u with interval := some (done (ms 1)) })

theorem test_heat_table_4_6 : (heated 0).retained.heat[6] = 200 ∧ (heated 1768).retained.heat[6] = 1961 := by
  decide +kernel
theorem test_heat_trip :
    (heated 2815).retained.heat[6] = 3004 ∧ (heated 2815).coils[6].state = .lockout ∧
    (heated 2626).thermal.levels[6] = .warm := by decide +kernel

/-! ### Section 5.8: a rollover -/

def roll4 : State := run (.switchEdge 14) (edged 14 true armed)
theorem test_rollover_edge :
    roll4.switches.records[14].edgeCount = 42 ∧ roll4.switches.records[14].sequence = 10 ∧
    roll4.bus.general = [.switch 14 .close 10] := by decide +kernel
def fullQueue : State := armed.onBus fun b => { b with general := List.replicate 15 (.switch 1 .close 0) }
/-- Event 8: the frame is dropped and the sequence number still moves. -/
theorem test_rollover_drop :
    (run (.switchEdge 14) (edged 14 false fullQueue)).service.counters[11] = 1 ∧
    (run (.switchEdge 14) (edged 14 false fullQueue)).switches.records[14].sequence = 10 := by decide +kernel

/-! ### Section 7.9: all lamps on -/

def onAll : Frame := fr 31 0 4 [0xff#8, 1#8, 0#8]
def lit1 : State := run (.lampFrame onAll.bytes) listening
def lit5 : State := run .lampPhaseExpiry (lit1.onLamps fun u => { u with phase := some (done (ms 5)) })
theorem test_lamps_at_1 :
    lit1.lamps.queue.length = 20 ∧ lit1.lamps.lamps[0].stage = .waiting ∧ lit1.lamps.lamps[20].stage = .lit := by
  decide +kernel
theorem test_lamps_at_5 :
    lit5.lamps.queue.length = 16 ∧ lit5.lamps.lamps[3].stage = .warming ∧ lit5.lamps.lamps[4].stage = .waiting := by
  decide +kernel

/-! ### Section 6.7: walk 1 -/

def pulseOf (c : CoilNo) : ReflexAction := .pulse c 1
def rEntry (src sw : Nat) (cond : Condition) (a : ReflexAction) : Option ReflexEntry :=
  some { source := src, switch := sw, edge := .close, condition := cond, action := a }
def bumper : State :=
  let table : List (Option ReflexEntry) := [rEntry 6 20 .none (pulseOf 5), rEntry 6 20 (.lampLit 7) (pulseOf 2),
    rEntry 6 20 (.lampLit 7) (.lampOff 7), rEntry 6 20 (.lampUnlit 7) (.lampOn 8), rEntry 4 11 .none (.lampOn 7),
    rEntry 6 20 .none (pulseOf 12), rEntry 6 20 .none (pulseOf 12)]
  lampCommand 7 .on (armed.onReflex fun r => { r with entries := Vector.ofFn fun k => table.getD k.val none })
theorem test_walk_1 :
    (walk 6 20 .close bumper).2.map CoilRequest.coil = [5, 2, 12, 12] ∧
    (walk 6 20 .close bumper).1.lamps.lamps[7].mode = .dark ∧
    (walk 6 20 .close bumper).1.lamps.lamps[8].mode = .lit := by decide +kernel
theorem test_walk_1_queue :
    queueOf (run (.switchEdge 20) (edged 20 true bumper)) = [(5, 1), (2, 1), (12, 2)] ∧
    (run (.switchEdge 20) (edged 20 true bumper)).service.counters[6] = 1 := by decide +kernel
/-- Event 4, 11 of section 6.7 relights lamp 7. -/
theorem test_remote_walk :
    (run (.switchFrame switchBytes) (bumper.onBus fun b => { b with receiver := .receiving })).lamps.lamps[7].mode =
      .lit := by decide +kernel

/-! ### Witnesses: time, and what every step keeps -/

theorem test_witness_EmptyQueueLetsTimePass :
    armed.pending = [] ∧ firstDue armed = none ∧ firstDue (promptScan armed) = some .scan := by decide +kernel

/-- Coil 5 has an entry and is in KICK (event 9 of section 1.8). -/
def kicking5 : State := onCoil 5 (fun ch => ch.kicked 10) busy4
theorem test_witness_TimeRunsTimersOnly :
    ∃ e ∈ kicking5.sched.queue, kicking5.coils[e.coil].state = .kick := by decide +kernel

/-- A queue of four, a channel in HOLD, an announce under way, and a command at the front. -/
def running1 : State := { magnet2 with pending := [.validityMarkLost] }
def running2 : State := { busy4 with pending := [.validityMarkLost] }
def running3 : State := { admit4 with pending := [.validityMarkLost] }
def atReset : State := { State.reset with pending := [.validityMarkLost] }

theorem test_witness_OutputsStayHeldOff :
    OutputsHeldOff atReset ∧ HeldOff atReset ∧ OutputsHeldOff running1 ∧ (∃ t, step running1 = .next t) :=
  ⟨by decide +kernel, by decide +kernel, by decide +kernel, _, rfl⟩
theorem test_witness_ChannelsStayCoherent : ChannelsCoherent running1 ∧ ∃ t, step running1 = .next t :=
  ⟨by decide +kernel, _, rfl⟩
theorem test_witness_CommittedDrawStaysExact :
    DrawMatches running1 ∧ running1.sched.committed = 3 ∧ ∃ t, step running1 = .next t :=
  ⟨by decide +kernel, by decide +kernel, _, rfl⟩
theorem test_witness_BudgetNeverExceeded :
    WithinBudget running3 ∧ running3.sched.announce ≠ none ∧ ∃ t, step running3 = .next t :=
  ⟨by decide +kernel, by decide +kernel, _, rfl⟩
theorem test_witness_FireQueueStaysSound :
    QueueHolds running2 ∧ QueueHolds running3 ∧ ∃ t, step running2 = .next t :=
  ⟨by decide +kernel, by decide +kernel, _, rfl⟩
theorem test_witness_QualifyTimersFollowInputs : SwitchesFollow running1 ∧ ∃ t, step running1 = .next t :=
  ⟨by decide +kernel, _, rfl⟩
theorem test_witness_LampQueueStaysSound :
    LampsHold { lit5 with pending := [.validityMarkLost] } ∧
    ∃ t, step { lit5 with pending := [.validityMarkLost] } = .next t := ⟨by decide +kernel, _, rfl⟩
theorem test_witness_TransmitQueueStaysBounded :
    TransmitHolds { fullQueue with pending := [.validityMarkLost] } ∧
    ∃ t, step { fullQueue with pending := [.validityMarkLost] } = .next t := ⟨by decide +kernel, _, rfl⟩
theorem test_witness_PeerTableStaysSound :
    PeersHold { table27 with pending := [.validityMarkLost] } ∧
    ∃ t, step { table27 with pending := [.validityMarkLost] } = .next t := ⟨by decide +kernel, _, rfl⟩
theorem test_witness_HeatAndCountersStayInRange :
    (HeatInRange running1 ∧ CountersInRange running1) ∧ ∃ t, step running1 = .next t := ⟨by decide +kernel, _, rfl⟩

/-! ### Witnesses: frames and start-up -/

theorem test_witness_FrameBytesReceivedAsSent :
    FitsTheLine (fr 255 255 15 (List.replicate 12 0xFF#8)) ∧ FitsTheLine (fr 0 0 0 []) ∧
    [0#8, 0#8] ≠ pair (crc (fr 0 0 0 []).body).toNat ∧ 5 < (fr 0 0 0 []).bytes.length := by decide +kernel
/-- An attempt of `f`, `n` bit times after its first start bit. -/
def wireOf (f : Frame) (n : Nat) (clash : Option Nat) : Wire :=
  { frame := f, timer := { elapsed := bits n, limit := bits (10 * f.bytes.length) }, clashAt := clash }
def wired (f : Frame) (n : Nat) (clash : Option Nat) (s : State) : State :=
  s.onBus fun b => { b with wire := some (wireOf f n clash) }
theorem test_witness_FrameBytesReceivedAsSent_line :
    armed.bus.wire = none ∧ ∀ i ∈ [0, 1, 8, 9],
      (wired (req [1#8]) (60 + i) none armed).bus.wire = some (wireOf (req [1#8]) (60 + i) none) ∧
      6 < (req [1#8]).bytes.length ∧ (wireOf (req [1#8]) (60 + i) none).timer.elapsed / bits 1 = 10 * 6 + i := by
  decide +kernel
/-- R118: the start bit and the stop bit of the byte in progress. -/
theorem test_line_levels :
    lineDriven (wired (req [1#8]) 60 none armed) = .active ∧ lineDriven (wired (req [1#8]) 69 none armed) = .passive ∧
    lineDriven armed = .passive := by decide +kernel
theorem test_witness_BackOffSlots : (1 : Fin 8) ≠ 0 ∧ (7 : Fin 8) ≠ 0 ∧ (1 : Fin 32) ≠ 31 := by decide
def markLost : State := run .validityMarkLost armed
theorem test_witness_ResetKinds : armed.retained.valid = true ∧ markLost.retained.valid = false := by decide +kernel
def holdOver : State := State.reset.onStartUp fun u => { u with hold := some (done (ms 40)) }
theorem test_witness_PowerUpHoldEnds : timerReached holdOver.startUp.hold = true := by decide
def loading : State := run (.powerUpHoldEnd 6) holdOver
def loaderAt (l : Loader) : State := loading.onStartUp fun u => { u with loader := l }
theorem test_power_up_hold : loading.startUp.strapNumber = 6 ∧ loading.startUp.loader = .reading 1 := by
  decide +kernel
theorem test_witness_LoaderRetries :
    (loaderAt (.reading 2)).startUp.loader = .reading 2 ∧
    (loaderAt (.waiting 2 (done (ms 10)))).startUp.loader = .waiting 2 (done (ms 10)) ∧
    (done (ms 10)).limit ≤ (done (ms 10)).elapsed := by decide +kernel

/-- Bytes 0–13 of an image (Table 11-1): station 6, C 64, H 4, M 48, A 12, B 10, Q 10, V_on 80, V_sag 90. -/
def imageHead : List Byte :=
  [0x41#8, 6#8, 64#8, 4#8, 48#8, 12#8, 10#8, 10#8, 80#8, 90#8, 0x3F#8, 0x0F#8, 2#8, 122#8]
/-- Two reflex records for switch 20 CLOSE: PULSE(5, 1) and PULSE(7, 15). -/
def imageReflexes : List Byte := [6#8, 20#8, 0#8, 0#8, 5#8, 1#8, 6#8, 20#8, 0#8, 0#8, 7#8, 15#8]
def zeros86 : List Byte := List.replicate 86 0
def zeros87 : List Byte := List.replicate 87 0
/-- Bytes 0–631: every other record zero. -/
def imageBody : List Byte :=
  [imageHead, zeros86, zeros86, zeros86, imageReflexes, zeros87, zeros87, zeros87, zeros87].flatten
/-- The image, with the check 0x0FC9, computed outside the model. -/
def image : List Byte := imageBody ++ [0x0F#8, 0xC9#8]

/-- `foldl crcByte`, its register evaluated at every byte so that the kernel's recursion stays shallow. -/
def crcGo : List Byte → Half → Half
  | [], r => r
  | x :: l, r => if r.toNat < 65536 then crcGo l (crcByte r x) else r
theorem crcGo_eq (l : List Byte) (r : Half) : l.foldl crcByte r = crcGo l r := by
  induction l generalizing r with
  | nil => rfl
  | cons x l ih => rw [List.foldl_cons, ih, crcGo, if_pos r.isLt]
/-- The check, piece by piece. -/
theorem image_piece1 : imageHead.foldl crcByte 0xFFFF#16 = 0xCEE0#16 := by
  rw [crcGo_eq]
  decide +kernel
theorem image_piece2 : zeros86.foldl crcByte 0xCEE0#16 = 0x711B#16 := by
  rw [crcGo_eq]
  decide +kernel
theorem image_piece3 : zeros86.foldl crcByte 0x711B#16 = 0xD147#16 := by
  rw [crcGo_eq]
  decide +kernel
theorem image_piece4 : zeros86.foldl crcByte 0xD147#16 = 0x9363#16 := by
  rw [crcGo_eq]
  decide +kernel
theorem image_piece5 : imageReflexes.foldl crcByte 0x9363#16 = 0x9965#16 := by
  rw [crcGo_eq]
  decide +kernel
theorem image_piece6 : zeros87.foldl crcByte 0x9965#16 = 0xAEC4#16 := by
  rw [crcGo_eq]
  decide +kernel
theorem image_piece7 : zeros87.foldl crcByte 0xAEC4#16 = 0x7549#16 := by
  rw [crcGo_eq]
  decide +kernel
theorem image_piece8 : zeros87.foldl crcByte 0x7549#16 = 0xD920#16 := by
  rw [crcGo_eq]
  decide +kernel
theorem image_piece9 : zeros87.foldl crcByte 0xD920#16 = 0x0FC9#16 := by
  rw [crcGo_eq]
  decide +kernel
theorem image_check : crc imageBody = 0x0FC9#16 := by
  simp only [crc, imageBody, List.flatten_cons, List.flatten_nil, List.foldl_append, List.foldl_nil,
    image_piece1, image_piece2, image_piece3, image_piece4, image_piece5, image_piece6, image_piece7, image_piece8,
    image_piece9]
theorem image_take : image.take 632 = imageBody := by
  have h : imageBody.length = 632 := by decide +kernel
  rw [image, ← h, List.take_left]
theorem image_accepted : loadOutcome image 6 = .accepted := by
  have h1 : byteAt image 0 = 0x41 := by decide +kernel
  have h2 : pairAt image 12 = imageLength := by decide +kernel
  have h3 : pairAt image 632 = (crc (image.take 632)).toNat := by
    rw [image_take, image_check]
    decide +kernel
  have h4 : 1 ≤ byteAt image 1 ∧ byteAt image 1 ≤ 30 ∧ byteAt image 1 = 6 := by decide +kernel
  have h5 : ¬(settingsOf image).capacity < 8 := by decide +kernel
  have h6 : (settingsOf image).reserve + (settingsOf image).headroom ≤ (settingsOf image).capacity ∧
      (settingsOf image).reserve ≤ (settingsOf image).ceiling := by decide +kernel
  have h7 : holdSourcesHold (settingsOf image).coils = true := by decide +kernel
  have h8 : coilDrawsHold (settingsOf image) = true := by decide +kernel
  simp [loadOutcome, h1, h2, ← h3, h4, h5, h6, h7, h8]

theorem test_witness_ImageRejected :
    (loaderAt (.reading 3)).startUp.loader = .reading 3 ∧ (0x42#8 :: image.tail).length = 634 ∧
    loadOutcome (0x42#8 :: image.tail) loading.startUp.strapNumber ≠ .accepted := by decide +kernel
theorem test_witness_ImageAccepted :
    loading.startUp.loader = .reading 1 ∧ image.length = 634 ∧
    loadOutcome image loading.startUp.strapNumber = .accepted ∧ loading.rail.state = .down :=
  ⟨by decide +kernel, by decide +kernel, image_accepted, by decide +kernel⟩
def duplicateLoading : State := loading.onLink fun l => { l with duplicateSeen := true }
theorem test_witness_ImageAccepted_duplicate :
    duplicateLoading.startUp.loader = .reading 1 ∧ duplicateLoading.link.duplicateSeen = true ∧
    loadOutcome image duplicateLoading.startUp.strapNumber = .accepted ∧ duplicateLoading.rail.state = .down :=
  ⟨by decide +kernel, by decide +kernel, image_accepted, by decide +kernel⟩
/-- Records 0 and 1 of the image pass the checks, record 2 is unused. -/
theorem test_witness_ValuesInForceInRange :
    ReflexChecksHold image (fun _ => .pulse) 0 ∧ ReflexChecksHold image (fun _ => .pulse) 1 ∧
    ¬ReflexChecksHold image (fun _ => .pulse) 2 ∧ ¬ReflexChecksHold image (fun _ => .flipper) 0 :=
  ⟨by decide +kernel, by decide +kernel, by decide +kernel, by decide +kernel⟩
/-- R95: two remote entries of one pair give it once, an own source gives none. -/
theorem test_remote_pairs :
    let e : ReflexEntry := { source := 4, switch := 11, edge := .close, condition := .none, action := .lampOn 0 }
    let v := ReflexTable.reset.entries
    remotePairs 6 { ReflexTable.reset with
      entries := ((v.set 0 (some e)).set 7 (some { e with source := 6 })).set 47 (some { e with edge := .opened }) } =
        [(4, 11)] := by decide
def accepted : State := acceptImage image loading
theorem test_acceptance :
    accepted.link.state = .listen ∧ accepted.settings.capacity = 64 ∧ accepted.retained.heat[0] = 128 := by
  decide +kernel
theorem test_rejection :
    (run (.configPassEnd (0x42#8 :: image.tail)) loading).startUp.outcome = some .format ∧
    (run .configReadError (loaderAt (.reading 3))).link.state = .held := by decide +kernel

/-! ### Witnesses: switches, flippers, reflexes -/

def clockFull : State := armed.onSwitches fun u => { u with clockTimer := done (ms 1) }
def unsettled5 : State := armed.onSwitches fun u => u.withRecord 5
  { u.records[5] with level := .unsettled, qualify := some { closed := false, timer := done (ms 8) } }
theorem test_witness_SwitchInputsTimed :
    clockFull.switches.clockTimer.limit ≤ clockFull.switches.clockTimer.elapsed ∧
    takesEdges unsettled5.link.state = true ∧ unsettled5.switches.records[(5 : SwitchNo)].level = .unsettled ∧
    unsettled5.switches.records[(5 : SwitchNo)].qualify = some { closed := false, timer := done (ms 8) } ∧
    (done (ms 8)).limit ≤ (done (ms 8)).elapsed ∧ armed.pins.switchHigh[(31 : SwitchNo)] ≠ false ∧
    takesEdges State.reset.link.state = false := by decide +kernel
theorem test_clock_wraps :
    (run .stationClockTick (clockFull.onSwitches fun u => { u with clock := 0xFFFF })).switches.clock = 0 := by
  decide +kernel
def timed (closed : Bool) : Qualify := { closed := closed, timer := done (ms 3) }
theorem test_witness_SwitchEdgeTaken :
    EdgeFalls 14 (timed true) (edged 14 true armed) ∧ Broadcasts 14 (edged 14 true armed) ∧
    (edged 14 true armed).bus.general.length < 15 ∧ EdgeFalls 14 (timed false) (edged 14 false fullQueue) ∧
    Broadcasts 14 (edged 14 false fullQueue) ∧ 15 ≤ (edged 14 false fullQueue).bus.general.length := by
  decide +kernel
theorem test_witness_FlipperFollowsButton :
    armed.settings.coils[(0 : CoilNo)].cls = .flipper ∧ armed.settings.coils[(0 : CoilNo)].holdSource = 3 ∧
    EdgeFalls 3 (timed true) (edged 3 true armed) ∧ (edged 3 true armed).coils[(0 : CoilNo)].state = .idle ∧
    MayPress (edged 3 true armed) ∧ ¬MayPress (edged 3 true (linkIn .held armed)) ∧ EdgeFalls 3 (timed true) (edged 3 true flip2) ∧
    (edged 3 true flip2).coils[(0 : CoilNo)].state = .hold ∧ EdgeFalls 3 (timed false) (edged 3 false flip2) := by
  decide +kernel
theorem test_witness_ReflexRequestsSuit :
    accepted.settings = settingsOf image ∧ accepted.reflex = reflexTableOf image accepted.settings.coils ∧
    (walk 6 20 .close accepted).2.map CoilRequest.pulses = [1, 15] := by decide +kernel
theorem test_witness_WalkTouchesLampsOnly :
    (answerList .localSwitch [{ coil := 2, action := .pulse, pulses := 1 }] kicking5).coils[(5 : CoilNo)].state =
      .kick := by decide +kernel
theorem test_witness_WalkTouchesLampsOnly_turns :
    ∃ e f g, bumper.reflex.entries[(1 : Fin 48)] = some e ∧ TurnActs 6 20 .close e bumper ∧
      bumper.reflex.entries[(3 : Fin 48)] = some f ∧ ¬TurnActs 6 20 .close f bumper ∧
      bumper.reflex.entries[(4 : Fin 48)] = some g ∧ ¬TurnActs 6 20 .close g bumper ∧
      bumper.reflex.entries[(47 : Fin 48)] = none :=
  ⟨_, _, _, rfl, by decide +kernel, rfl, by decide +kernel, rfl, by decide +kernel, rfl⟩

/-! ### Witnesses: requests, the scan, the announce -/

def coilIn (c : CoilNo) (st : CoilState) (s : State) : State := onCoil c (fun ch => { ch with state := st }) s
theorem test_witness_RequestChecks :
    (linkIn .held armed).link.state = .held ∧ armed.settings.coils[(0 : CoilNo)].cls = .flipper ∧
    armed.settings.coils[(9 : CoilNo)].cls = .latch ∧ armed.settings.coils[(15 : CoilNo)].cls = .pulse ∧
    (coilIn 15 .fault armed).coils[(15 : CoilNo)].state = .fault ∧
    (coilIn 15 .lockout armed).coils[(15 : CoilNo)].state = .lockout ∧
    (coilIn 15 .lockout armed).link.state ≠ .held ∧ (coilIn 15 .lockout armed).link.state ≠ .duplicate := by
  decide +kernel

/-- A queue of 11 or 12 entries, none for coils 9 and 15. -/
def queued (n : Nat) : State :=
  armed.onSched fun q => { q with queue :=
    ([1, 2, 3, 4, 5, 6, 7, 8, 10, 11, 12, 13].map fun c => entry c .pulses 1 .service).take n }
theorem test_witness_PulseRequestAnswered :
    PassesChecks 12 .pulse busy4 ∧ (∃ e ∈ busy4.sched.queue, e.coil = 12) ∧ PassesChecks 15 .pulse (queued 11) ∧
    (∀ e ∈ (queued 11).sched.queue, e.coil ≠ 15) ∧ (queued 11).sched.queue.length = 11 ∧
    PassesChecks 15 .pulse (queued 12) ∧ (∀ e ∈ (queued 12).sched.queue, e.coil ≠ 15) ∧
    (queued 12).sched.queue.length = 12 := by decide +kernel
theorem test_witness_EngageAndReleaseAnswered :
    PassesChecks 9 .engage magnet1 ∧ magnet1.coils[(9 : CoilNo)].state = .kick ∧
    PassesChecks 9 .engage magnet2 ∧ magnet2.coils[(9 : CoilNo)].state = .hold ∧
    (∀ e ∈ magnet2.sched.queue, e.coil ≠ 9) ∧ PassesChecks 9 .engage busy4 ∧
    (∃ e ∈ busy4.sched.queue, e.coil = 9) := by decide +kernel
theorem test_witness_EngageAndReleaseAnswered_queue :
    PassesChecks 9 .engage (queued 11) ∧ (queued 11).coils[(9 : CoilNo)].state = .idle ∧
    (∀ e ∈ (queued 11).sched.queue, e.coil ≠ 9) ∧ PassesChecks 9 .engage (queued 12) ∧
    (queued 12).coils[(9 : CoilNo)].state ≠ .hold ∧ (∀ e ∈ (queued 12).sched.queue, e.coil ≠ 9) ∧
    (queued 12).sched.queue.length = 12 := by decide +kernel
theorem test_release_magnet :
    (request 9 .release 1 .fireFrame magnet2).1.coils[9].state = .rest ∧
    (request 9 .release 1 .fireFrame magnet2).1.sched.committed = 0 := by decide +kernel
theorem test_witness_FireFrameIsRequest :
    goodFrameFor .fire fireBytes listening = some (fr 31 6 3 [0x0C#8, 0x30#8]) := by decide +kernel

/-- A scan is owed, with coil 6 the candidate. -/
def candidate (s : State) : State := (request 6 .pulse 1 .service s).1
def announcing (c : CoilNo) (carried : Bool) (s : State) : State :=
  s.onSched fun q => { q with
    queue := [{ entry c .pulses 1 .service with phase := .announcing }, entry 7 .pulses 2 .service]
    announce := some { coil := c, draw := 8, timer := startTimer (ms 20), carried := carried }, scanDue := true }
def lend (n : Nat) (s : State) : State := s.onSched fun q => { q with committed := n }
def entry6 : Entry := entry 6 .pulses 1 .service
def rest7 : State := coilIn 6 .rest (announcing 6 false armed)

theorem test_witness_ScanActsOnCandidate :
    (promptScan armed).sched.scanDue = true ∧ (∀ x ∈ (promptScan armed).sched.queue, eligible armed x.coil = false) ∧
    (candidate armed).sched.scanDue = true ∧
    (candidate armed).sched.queue.find? (fun x => eligible (candidate armed) x.coil) = some entry6 ∧
    (candidate armed).sched.announce = none ∧ fits (candidate armed) 0 8 = true ∧
    withinAllowance (candidate armed) 0 8 = true ∧ withinAllowance (candidate (lend 5 armed)) 5 8 = false ∧
    fits (candidate (lend 5 armed)) 5 8 = true ∧ fits (candidate (lend 17 armed)) 17 8 = false := by decide +kernel
theorem test_witness_ScanActsOnCandidate_announce :
    (announcing 6 false armed).sched.scanDue = true ∧
    ((announcing 6 false armed).sched.queue.find? fun x => eligible (announcing 6 false armed) x.coil) =
      some { entry6 with phase := .announcing } ∧
    (rest7.sched.queue.find? fun x => eligible rest7 x.coil) = some (entry 7 .pulses 2 .service) ∧
    rest7.sched.announce.map Announce.coil = some 6 ∧ fits rest7 (0 + 8) 8 = true ∧
    withinAllowance rest7 (0 + 8) 8 = false := by decide +kernel
theorem test_scan_allowance :
    (run .scan (candidate armed)).coils[6].state = .kick ∧
    (run .scan (candidate (lend 5 armed))).sched.announce.map Announce.draw = some 8 := by decide +kernel

def announceOver : State := (announcing 6 false armed).onSched fun q => { q with
  announce := some { coil := 6, draw := 8, timer := done (ms 20), carried := false } }
def waitOverOf6 : State := armed.onSched fun q => { q with queue := [{ entry6 with wait := done (cs 20) }] }
theorem test_witness_AnnounceAndWaitLimits :
    announceOver.sched.announce = some { coil := 6, draw := 8, timer := done (ms 20), carried := false } ∧
    entryOf waitOverOf6 6 = some { entry6 with wait := done (cs 20) } ∧
    (done (cs 20)).limit ≤ (done (cs 20)).elapsed := by decide +kernel
theorem test_wait_limit :
    (run (.waitLimitExpiry 6) waitOverOf6).sched.queue = [] ∧
    (run (.waitLimitExpiry 6) waitOverOf6).service.counters[8] = 1 ∧
    (run (.waitLimitExpiry 6) waitOverOf6).service.events = 2 := by decide +kernel

/-! ### Witnesses: channels -/

def kickOver (c : CoilNo) : State := kickDone c (onCoil c (fun ch => ch.kicked 10) armed)
theorem test_witness_KickExpiry :
    (∀ c : CoilNo, (kickOver c).coils[c].state = .kick ∧ timerReached (kickOver c).coils[c].kickTimer = true) ∧
    armed.settings.coils[(0 : CoilNo)].cls = .flipper ∧ armed.settings.coils[(9 : CoilNo)].cls = .latch ∧
    armed.settings.coils[(15 : CoilNo)].cls = .pulse := by decide +kernel
def holdOverOf (c : CoilNo) : State := onCoil c (fun ch => { ch.held 2 4 with holdTimer := some (done (sec 2)) }) armed
def restOverOf (c : CoilNo) : State := onCoil c (fun ch => { ch.rested 3 with restTimer := some (done (cs 3)) }) armed
def noRest (c : CoilNo) (s : State) : State :=
  s.onSettings fun u => { u with coils := u.coils.set c { u.coils[c] with restTime := 0 } }
def pressed (s : State) : State := s.onSwitches fun u => u.withRecord 3 { u.records[3] with level := .closed }
theorem test_witness_HoldAndRestExpiry :
    (∀ c : CoilNo, (holdOverOf c).coils[c].state = .hold ∧ timerReached (holdOverOf c).coils[c].holdTimer = true ∧
      (restOverOf c).coils[c].state = .rest ∧ timerReached (restOverOf c).coils[c].restTimer = true) ∧
    (noRest 9 (holdOverOf 9)).settings.coils[(9 : CoilNo)].restTime = 0 ∧
    (holdOverOf 9).settings.coils[(9 : CoilNo)].restTime ≠ 0 ∧
    (pressed (restOverOf 0)).switches.records[(3 : SwitchNo)].level = .closed ∧
    MayPress (pressed (restOverOf 0)) ∧ (restOverOf 0).settings.coils[(0 : CoilNo)].holdSource = 3 := by
  decide +kernel
theorem test_rest_of_zero :
    (run (.holdLimitExpiry 9) (noRest 9 (holdOverOf 9))).coils[9].state = .idle ∧
    (run (.holdLimitExpiry 0) (holdOverOf 0)).coils[0].needsRelease = true := by decide +kernel
def openDue : State := onCoil 6 (fun ch => { ch.kicked 10 with kickTimer := some { elapsed := ms 2, limit := ms 10 } }) armed
theorem test_witness_OpenAndShortFaults :
    openDue.coils[(6 : CoilNo)].state = .kick ∧
    openDue.coils[(6 : CoilNo)].kickTimer = some { elapsed := ms 2, limit := ms 10 } ∧
    openDue.coils[(6 : CoilNo)].currentSeen = false ∧ senseJudged openDue.link.state = true ∧
    armed.coils[(6 : CoilNo)].state ≠ .fault ∧ commandedOn magnet2.coils[(9 : CoilNo)].state = true := by
  decide +kernel
theorem test_open :
    (run (.kickOpenCheck 6) openDue).coils[6].faultKind = some .opened ∧
    (run (.kickOpenCheck 6) openDue).faultLine.kinds[6].opened = true := by decide +kernel
theorem test_witness_SenseAndStuckFault :
    senseJudged State.reset.link.state = false ∧ senseJudged armed.link.state = true ∧
    magnet3.coils[(9 : CoilNo)].state = .fault ∧
    timerReached (offDone armed).coils[(9 : CoilNo)].offTimer = true ∧ (offDone armed).coils[(9 : CoilNo)].state ≠ .fault ∧
    timerReached (offDone magnet3).coils[(9 : CoilNo)].offTimer = true ∧
    (offDone magnet3).coils[(9 : CoilNo)].faultKind ≠ some .stuck ∧
    timerReached (offDone magnet4).coils[(9 : CoilNo)].offTimer = true ∧
    (offDone magnet4).coils[(9 : CoilNo)].faultKind = some .stuck := by decide +kernel

/-- T of channel `c`, and the interval at its end. -/
def heatOf (c : CoilNo) (t : Nat) (s : State) : State :=
  (s.onRetained fun r => { r with heat := r.heat.set c t }).onThermal fun u => { u with interval := some (done (ms 1)) }
theorem test_witness_ThermalInterval :
    thermalRuns (heatOf 6 3002 armed).link.state = true ∧ timerReached (heatOf 6 3002 armed).thermal.interval = true ∧
    LocksOut 6 (heatOf 6 3012 armed) ∧ ¬LocksOut 6 (heatOf 6 3011 armed) ∧
    (coilIn 6 .lockout (heatOf 6 1502 armed)).coils[(6 : CoilNo)].state = .lockout ∧
    heatNext 6 (heatOf 6 1502 armed) = 1496 ∧ flip2.coils[(0 : CoilNo)].state = .hold ∧
    flip2.settings.coils[(0 : CoilNo)].cls = .flipper := by decide +kernel
/-- Coil 6 at the first interval since acceptance, with `t` as the T that a reset has kept. -/
def keptHeat (t : Nat) : State := (heatOf 6 t armed).onThermal fun u => { u with firstInterval := true }
/-- A kept T at the trip level, which the first cooling takes below it. -/
theorem test_witness_ThermalInterval_first :
    armed.settings.coils[(6 : CoilNo)].trip = 3000 ∧ LocksOut 6 (keptHeat 3000) ∧ heatNext 6 (keptHeat 3000) < 3000 ∧
    ¬LocksOut 6 (keptHeat 2999) ∧ ¬LocksOut 6 (heatOf 6 3000 armed) := by decide +kernel
/-- R66, R79: a kept T at trip gives LOCKOUT at the first interval, and at no later one (R75). -/
theorem test_kept_heat_locks_out :
    (run .thermalIntervalExpiry (keptHeat 3000)).coils[6].state = .lockout ∧
    (run .thermalIntervalExpiry (keptHeat 3000)).thermal.firstInterval = false ∧
    (run .thermalIntervalExpiry (heatOf 6 3000 armed)).coils[6].state = .idle := by decide +kernel
/-- Coil 6 is announced and heats past its trip level: its entry goes with LOCKED_OUT. -/
def lockingAnnounced : State := heatOf 6 3012 (announcing 6 false armed)
theorem test_witness_ThermalInterval_entry :
    LocksOut 6 lockingAnnounced ∧ (entryOf lockingAnnounced 6).isSome = true ∧
    announced 6 lockingAnnounced.sched = true := by decide +kernel
theorem test_lockout_takes_entry :
    (run .thermalIntervalExpiry lockingAnnounced).service.counters[9] = 1 ∧
    (run .thermalIntervalExpiry lockingAnnounced).service.events = 4 ∧
    queueOf (run .thermalIntervalExpiry lockingAnnounced) = [(7, 2)] := by decide +kernel
/-- Section 4.7: the release at T = 1496; section 4.8: 12288 becomes 12289 in HOLD. -/
theorem test_lockout_release :
    (run .thermalIntervalExpiry (coilIn 6 .lockout (heatOf 6 1502 armed))).coils[6].state = .idle ∧
    (run .thermalIntervalExpiry (heatOf 9 12288 magnet2)).retained.heat[9] = 12289 := by decide +kernel

/-! ### Witnesses: lamps -/

def flashing (cycles : Option Nat) (half : Bool) : Flash :=
  { halfPeriod := 25, cycles := cycles, finalOn := true, halfLit := half, timer := done (cs 25) }
def flashLamp (f : Flash) : State := armed.onLamps fun u =>
  { u with lamps := u.lamps.set 7 { u.lamps[7] with mode := .flash, flash := some f } }
theorem test_witness_FlashHalves :
    (∀ f ∈ [flashing none true, flashing none false, flashing (some 2) false, flashing (some 1) false],
      (flashLamp f).lamps.lamps[(7 : LampNo)].mode = .flash ∧ (flashLamp f).lamps.lamps[(7 : LampNo)].flash = some f ∧
      f.timer.limit ≤ f.timer.elapsed) := by decide +kernel
theorem test_flash_ends :
    (run (.lampHalfExpiry 7) (flashLamp (flashing (some 1) false))).lamps.lamps[7].mode = .lit ∧
    (run (.lampHalfExpiry 7) (flashLamp (flashing (some 1) true))).lamps.lamps[7].mode = .flash := by decide +kernel
def phaseOver : State := lit1.onLamps fun u => { u with phase := some (done (ms 5)) }
def warmOver : State := lit5.onLamps fun u =>
  { u with lamps := u.lamps.set 3 { u.lamps[3] with warmUp := some (done (ms 20)) } }
theorem test_witness_LampPhaseAndWarmUp :
    timerReached phaseOver.lamps.phase = true ∧ warmOver.lamps.lamps[(3 : LampNo)].stage = .warming ∧
    timerReached warmOver.lamps.lamps[(3 : LampNo)].warmUp = true := by decide +kernel
theorem test_warm_up : (run (.warmUpExpiry 3) warmOver).lamps.lamps[3].stage = .lit := by decide +kernel
theorem test_witness_ModeCommands :
    armed.settings.lamps[(23 : LampNo)].incandescent = false ∧ armed.settings.lamps[(0 : LampNo)].incandescent = true ∧
    demandLit (lampCommand 0 .on armed).lamps.lamps[(0 : LampNo)] = true ∧
    armed.lamps.lamps[(0 : LampNo)].stage = .dark ∧ lit1.lamps.lamps[(0 : LampNo)].stage ≠ .dark ∧
    demandLit (lampCommand 0 .off lit1).lamps.lamps[(0 : LampNo)] = false := by decide +kernel
/-- Lamp numbers 23, 24, 254 and 255, mode codes 3 and 4. -/
theorem test_witness_LampFrameTaken :
    (∀ p ∈ [[23#8, 3#8, 0#8], [24#8, 1#8, 0#8], [254#8, 1#8, 0#8], [255#8, 1#8, 0#8], [0#8, 4#8, 0#8]],
      goodFrameFor .lamp (fr 31 6 4 p).bytes listening = some (fr 31 6 4 p) ∧
      goodFrameFor .lamp (fr 31 6 4 p).bytes (linkIn .held listening) = some (fr 31 6 4 p)) := by decide +kernel

/-! ### Witnesses: the rail and the fault line -/

def railIn (r : RailState) : State := armed.onRail fun _ =>
  { state := r, settle := some (done (ms 200)), sagQualify := some (done (ms 2)), sagClear := some (done (ms 20)) }
theorem test_witness_RailMonitored :
    (railIn .settling).rail.state = .settling ∧ timerReached (railIn .settling).rail.settle = true ∧
    (railIn .up).rail.state = .up ∧ timerReached (railIn .up).rail.sagQualify = true ∧
    (railIn .sag).rail.state = .sag ∧ timerReached (railIn .sag).rail.sagClear = true ∧
    (railIn .down).rail.state = .down ∧ (79#8).toNat < armed.settings.vOn ∧ armed.settings.vOn ≤ (80#8).toNat ∧
    (89#8).toNat < armed.settings.vSag ∧ armed.settings.vSag ≤ (90#8).toNat ∧ armed.link.state ≠ .offline ∧
    armed.link.state ≠ .held := by decide +kernel
theorem test_rail_drop :
    (run (.railReadingChange 79) magnet2).coils[9].state = .idle ∧
    (run (.railReadingChange 79) magnet2).service.counters[12] = 1 ∧
    (run (.railReadingChange 80) magnet2).rail.sagQualify = some (startTimer (ms 2)) := by decide +kernel
theorem test_rail_timers :
    (run .settleTimerExpiry (railIn .settling)).rail.state = .up ∧
    (run .sagQualifyExpiry (railIn .up)).rail.state = .sag ∧
    (run .sagClearExpiry (railIn .sag)).rail.state = .up := by decide +kernel
def safe : State := run .faultLineAsserted armed
def safeOver : State := safe.onFaultLine fun f => { f with release := some (done (ms 100)) }
theorem test_witness_FaultLineAndSafe :
    armed.faultLine.watching = true ∧ armed.faultLine.drive = .normal ∧ safe.faultLine.drive = .safe ∧
    safe.pins.tfaultLow = true ∧ faultLineDriven safe = false ∧ State.reset.faultLine.watching = false ∧
    timerReached safeOver.faultLine.release = true ∧ faultLineDriven magnet3 = true := by decide +kernel
/-- R172: mask bit 0 and bit 1, and HELD whatever the mask. -/
theorem test_status_lamp :
    statusLamp armed = false ∧ statusLamp (linkIn .listen armed) = true ∧ statusLamp (railIn .sag) = true ∧
    statusLamp (linkIn .held armed) = true := by decide +kernel
theorem test_safe :
    queueOf (run .faultLineAsserted busy4) = [] ∧ (run .faultLineAsserted busy4).service.events = 0x1000 ∧
    (run .releaseSettleExpiry safeOver).faultLine.drive = .normal ∧
    (run .faultLineReleased safe).faultLine.release = some (startTimer (ms 100)) := by decide +kernel

/-! ### Witnesses: receiving -/

/-- A series is in progress, its wait over. -/
def inSeries (k : SeriesKind) (failed : Nat) (cut : Bool) (s : State) : State :=
  s.onBus fun b => { b with series := some { kind := k, failed := failed, cut := cut }, idle := idleCap }

def fragmentOver : State := listening.onBus fun b => { b with idle := bits 12 }
def badBytes : List Byte := [0xC3#8, 0x1F#8, 0x06#8, 0x51#8, 0x01#8, 0xD4#8, 0x87#8]
theorem test_witness_ReceptionsClassed :
    armed.bus.started = true ∧ armed.bus.wire = none ∧ fragmentDue armed = false ∧ fragmentDue fragmentOver = true ∧
    receptionEnds listening = true ∧ classify badBytes = .bad ∧ listening.link.windowFrames < 256 ∧
    goodFrameFor .ignored (fr 0 0 4 []).bytes listening = some (fr 0 0 4 []) := by decide +kernel
/-- A reception ends while the window is full; a start bit meets an attempt, or the end of one. -/
def windowFull (bad : Nat) (s : State) : State := s.onLink fun l => { l with windowFrames := 256, windowBad := bad }
theorem test_witness_ReceptionsClassed_window :
    256 ≤ (windowFull 9 listening).link.windowFrames ∧ qualityRuns (windowFull 9 listening).link.state = true ∧
    receptionEnds (windowFull 9 listening) = true ∧ qualityRuns (linkIn .held listening).link.state = false := by
  decide +kernel
theorem test_witness_ReceptionsClassed_attempt :
    ∀ n ∈ [0, 9, 10, 69, 70], (wired (req [1#8]) n none armed).bus.started = true ∧
      (wired (req [1#8]) n none armed).bus.wire.isSome = true := by decide +kernel
/-- R118, R131: a second station drives the third byte: no success, and a failure that is due at its stop bit. -/
def clashed : State := run .startBitOnLine (inSeries .draw 0 false (wired (req [1#8]) 25 none armed))
def clashedOver : State := clashed.onBus fun b => { b with wire := b.wire.map fun w => { w with timer := done w.timer.limit } }
theorem test_contention :
    clashed.bus.wire.map (fun w => w.clashAt) = some (some (bits 30)) ∧
    run .txAttemptSuccess clashedOver = clashedOver ∧ isDue .txAttemptFailure clashed = false ∧
    isDue .txAttemptFailure clashedOver = true := by decide +kernel
/-- A start bit at the end of a fragment, before the receiver has started, and bytes that are no complete frame. -/
theorem test_witness_ReceptionsClassed_fragment :
    fragmentOver.bus.started = true ∧ fragmentDue fragmentOver = true ∧ State.reset.bus.started = false ∧
    classify badBytes ≠ .incomplete ∧ classify (badBytes.set 0 0#8) = .incomplete ∧
    classify (badBytes.set 3 0x5D#8) = .incomplete := by decide +kernel
theorem test_start_bit_after_fragment :
    (run .startBitOnLine fragmentOver).bus.receiver = .receiving ∧
    (run .startBitOnLine fragmentOver).service.counters[2] = 1 := by decide +kernel
theorem test_receptions :
    (run .fragment fragmentOver).service.counters[2] = 1 ∧
    (run (.badFrame badBytes) listening).service.counters[1] = 1 ∧
    (run (.filteredFrame (fr 0 0 4 []).bytes) listening).service.counters[4] = 1 ∧
    (run .startBitOnLine armed).bus.receiver = .between := by decide +kernel
theorem test_witness_ReceiveFilter :
    (fr 31 0 4 []).src ≤ 31 ∧ (fr 0 0 4 []).src = 0 ∧ (fr 6 0 4 []).src ≠ 0 ∧
    destination 6 .armed (fr 30 0 1 [0#8, 0#8, 0#8, 25#8, 0#8, 0#8]) = .draw ∧
    destination 6 .armed (fr 30 0 1 [0#8, 0#8, 0#8, 26#8, 0#8, 0#8]) = .ignored ∧
    destination 6 .armed (fr 30 0 2 [31#8, 0#8]) = .switch ∧ destination 6 .armed (fr 30 0 2 [32#8, 0#8]) = .ignored ∧
    destination 6 .armed (fr 30 6 3 [15#8, 2#8]) = .fire ∧ destination 6 .armed (fr 30 6 3 [15#8, 3#8]) = .ignored ∧
    destination 6 .armed (fr 31 6 5 [0#8]) = .service 0 ∧ destination 6 .armed (fr 30 6 5 [0#8]) = .ignored := by
  decide
def own6 : Frame := fr 6 0 4 [0#8, 0#8, 0#8]
theorem test_witness_OwnNumberFrames :
    ∀ l ∈ [LinkState.offline, .held, .duplicate, .listen, .announced, .armed],
      goodFrameFor .ownNumber own6.bytes (linkIn l listening) = some own6 := by decide +kernel
theorem test_duplicate :
    (run (.ownNumberFrame own6.bytes) listening).link.state = .duplicate ∧
    (run (.ownNumberFrame own6.bytes) listening).faultLine.duplicate = true := by decide +kernel
def remembering (last : Option (Nat × EdgeKind)) : State :=
  listening.onLink fun l => { l with memory := [{ station := 4, switch := 11, last := last }] }
/-- The frame carries CLOSE, sequence 5: no gap after (4, OPEN), a gap after (4, CLOSE), none after nothing. -/
theorem test_witness_PeerFramesTaken :
    goodFrameFor .draw drawBytes listening = some (fr 5 0 1 [10#8, 0#8, 20#8, 10#8, 3#8, 8#8]) ∧
    goodFrameFor .draw drawBytes (linkIn .held listening) = some (fr 5 0 1 [10#8, 0#8, 20#8, 10#8, 3#8, 8#8]) ∧
    (∀ last ∈ [none, some (4, EdgeKind.opened), some (4, .close)],
      goodFrameFor .switch switchBytes (remembering last) = some (fr 4 0 2 [0x0B#8, 0x85#8])) ∧
    (remembering none).link.state = .armed ∧
    goodFrameFor .switch switchBytes (linkIn .duplicate listening) = some (fr 4 0 2 [0x0B#8, 0x85#8]) := by
  decide +kernel
theorem test_switch_gap :
    (run (.switchFrame switchBytes) (remembering (some (4, .opened)))).service.counters[10] = 0 ∧
    (run (.switchFrame switchBytes) (remembering (some (4, .close)))).service.counters[10] = 1 := by decide +kernel

/-! ### Witnesses: service -/

/-- Every code of Table 11-4 that only answers, and two that are not in it; arguments 15, 16, 31, 32. -/
theorem test_witness_ReadRequestsAnswered :
    ∀ p ∈ [[1#8], [2#8], [3#8, 2#8], [3#8, 3#8], [4#8, 30#8], [4#8, 31#8], [5#8, 15#8], [5#8, 16#8], [5#8],
        [6#8, 31#8], [6#8, 32#8], [10#8], [0#8], [11#8]],
      goodFrameFor (.service (byteAt p 0)) (req p).bytes listening = some (req p) := by decide +kernel
theorem test_read_requests :
    (run (.status statusBytes) listening).bus.general = [.reply (okWith 1 .status)] ∧
    (run (.readEvents (req [2#8]).bytes) listening).bus.general = [.reply (okWith 2 .events)] ∧
    (run (.readCounters (req [3#8, 3#8]).bytes) listening).bus.general = [.reply (bare 3 1)] ∧
    (run (.readPeer (req [4#8, 30#8]).bytes) listening).bus.general = [.reply (okWith 4 (.peer 30))] ∧
    (run (.readCoil (req [5#8, 15#8]).bytes) listening).bus.general = [.reply (okWith 5 (.coil 15))] ∧
    (run (.readSwitch (req [6#8]).bytes) listening).bus.general = [.reply (bare 6 1)] ∧
    (run (.svcUnknownRequest (req [11#8]).bytes) listening).bus.general = [.reply (bare 11 3)] ∧
    (run (.restart (req [10#8]).bytes) listening).bus.general.length = 1 := by decide +kernel
/-- R126: room for a 15th entry and none for a 16th; the SVC_REPLY is replaced unless an attempt of it is on the wire. -/
theorem test_request_taken :
    let entries : List GeneralEntry := List.replicate 14 (.switch 3 .close 4)
    let bus (g : List GeneralEntry) (k : SeriesKind) : Bus :=
      { Bus.reset with general := g, series := some { kind := k, failed := 0, cut := false }
                       wire := some (wireOf (req [1#8]) 30 none) }
    requestTaken { Bus.reset with general := entries } = true ∧
    requestTaken { Bus.reset with general := .switch 3 .close 4 :: entries } = false ∧
    requestTaken (bus (.reply (okWith 1 .status) :: entries) .reply) = false ∧
    requestTaken (bus (.reply (okWith 1 .status) :: entries) .draw) = true := by decide
def fullListening : State := fullQueue.onBus fun b => { b with receiver := .receiving }
theorem test_witness_ActingRequestsAnswered :
    (∀ p ∈ [[7#8, 15#8, 15#8], [7#8, 16#8, 1#8], [7#8, 1#8, 16#8], [7#8, 1#8], [8#8, 23#8, 3#8], [8#8, 24#8, 1#8],
        [8#8, 254#8, 1#8], [8#8, 255#8, 1#8], [8#8, 0#8, 4#8], [8#8], [9#8, 15#8], [9#8, 16#8], [9#8, 255#8], [9#8]],
      goodFrameFor (.service (byteAt p 0)) (req p).bytes listening = some (req p) ∧
      goodFrameFor (.service (byteAt p 0)) (req p).bytes (linkIn .held listening) = some (req p)) ∧
    requestTaken listening.bus = true ∧ requestTaken fullListening.bus = false ∧
    goodFrameFor (.service 9) (req [9#8, 255#8]).bytes fullListening = some (req [9#8, 255#8]) := by decide +kernel
/-- A full window at the frame of a CLEAR_FAULT: its end changes DEGRADED and prompts a scan. -/
theorem test_witness_ActingRequestsAnswered_window :
    goodFrameFor (.service 9) (req [9#8, 255#8]).bytes (windowFull 200 listening) = some (req [9#8, 255#8]) ∧
    requestTaken (windowFull 200 listening).bus = true ∧ (windowFull 200 listening).sched.scanDue = false ∧
    (takeGood (windowFull 200 listening)).sched.scanDue = true := by decide +kernel
theorem test_acting_requests :
    queueOf (run (.testPulse (req [7#8, 15#8, 0#8]).bytes) listening) = [(15, 1)] ∧
    (run (.setLamp (req [8#8, 23#8, 1#8]).bytes) listening).lamps.lamps[23].mode = .lit ∧
    (run (.setLamp (req [8#8, 24#8, 1#8]).bytes) listening).bus.general = [.reply (bare 8 1)] := by decide +kernel

/-! ### Witnesses: sending -/

def beatOver : State := armed.onBus fun b => { b with beatTimer := some (done (cs 10)) }
def drawWaits : State := markDraw armed
def replyWaits : State := armed.onBus fun b => { b with general := [.reply (okWith 1 .status)] }
theorem test_witness_BeatAndSeriesStart :
    timerReached beatOver.bus.beatTimer = true ∧ armed.bus.series = none ∧ armed.bus.wire = none ∧
    armed.link.state ≠ .offline ∧ ownNumber armed = 6 ∧ drawWaits.bus.drawPending = true ∧
    drawWaits.link.state ≠ .duplicate ∧ replyWaits.bus.drawPending = false ∧
    replyWaits.bus.general = [.reply (okWith 1 .status)] := by decide +kernel
theorem test_series_start :
    (run .txSeriesStart drawWaits).bus.series = some { kind := .draw, failed := 0, cut := false } ∧
    (run .beatTimerExpiry beatOver).bus.drawPending = true := by decide +kernel

def switchWaits : State := armed.onBus fun b => { b with general := [.switch 14 .close 10] }
theorem test_witness_AttemptBegins :
    (∀ x ∈ [(SeriesKind.draw, announcing 6 false armed), (.draw, announcing 6 false (lend 17 armed)),
        (.draw, armed), (.switch, switchWaits), (.reply, replyWaits)],
      let s := inSeries x.1 7 false x.2
      s.bus.series = some { kind := x.1, failed := 7, cut := false } ∧ s.bus.wire = none ∧ s.bus.started = true ∧
      s.bus.byteLeft = 0 ∧ fragmentDue s = false ∧
      bits (12 + 8 + 16 * backOff (ownNumber s) 7) ≤ s.bus.idle) ∧
    fits (announcing 6 false armed) 0 8 = true ∧ fits (announcing 6 false (lend 17 armed)) 17 8 = false := by
  decide +kernel
/-- Table 11-4: coil 12 of section 1.8, event 5: IDLE, T 0, an entry of kind PULSES and origin FIRE_FRAME, 15 pulses. -/
theorem test_read_coil_data :
    replyData (.coil 12) busy5 = [0#8, 0#8, 0#8, 0#8, 0#8, 0x21#8, 15#8, 0#8, 0#8] := by decide +kernel
/-- The SWITCH frame of section 5.8, event 4: switch 14, CLOSE, sequence 10. -/
theorem test_switch_attempt :
    (run .txWaitExpiry (inSeries .switch 0 false switchWaits)).bus.wire.map (fun w => w.frame) =
      some (fr 6 0 2 [14#8, 0x8A#8]) := by decide +kernel

/-- The attempt of a series has all its bytes read back. -/
def sent (f : Frame) (s : State) : State :=
  s.onBus fun b => { b with wire := some { frame := f, timer := done (bits (10 * (f.payload.length + 6))), clashAt := none } }
def drawSent (s : State) : State := sent (drawFrameOf s) (inSeries .draw 0 false s)
def listenOver : State := armed.onLink fun l => { l with state := .listen }
def replyOf (r : Reply) : State :=
  sent (replyFrame r armed) (inSeries .reply 0 false (armed.onBus fun b => { b with general := [.reply r] }))
def restartReply : Reply := { bare 10 0 with restart := true }
theorem test_witness_AttemptSucceeds :
    (drawSent armed).bus.series = some { kind := .draw, failed := 0, cut := false } ∧
    (drawSent armed).bus.wire.map (fun w => decide (w.timer.limit ≤ w.timer.elapsed)) = some true ∧
    (drawSent armed).bus.wire.map (fun w => w.clashAt) = some none ∧
    clashedOver.bus.wire.map (fun w => (decide (w.timer.limit ≤ w.timer.elapsed), w.clashAt)) = some (true, some 120) ∧
    listenOver.link.state = .listen ∧ listenOver.link.listenWindow = none ∧
    (drawSent (announcing 6 true armed)).sched.announce.map Announce.carried = some true ∧
    eligible (drawSent (announcing 6 true armed)) 6 = true ∧
    (sent (switchFrameOf 6 14 .close 10) (inSeries .switch 0 false switchWaits)).bus.series =
      some { kind := .switch, failed := 0, cut := false } ∧
    (∀ r ∈ [okWith 1 .status, okWith 2 .events, restartReply],
      (replyOf r).bus.general.find? isReply = some (.reply r) ∧
      (replyOf r).bus.series = some { kind := .reply, failed := 0, cut := false }) ∧
    armed.retained.valid = true := by decide +kernel
theorem test_draw_completes :
    (run .txAttemptSuccess (drawSent listenOver)).link.state = .announced ∧
    (run .txAttemptSuccess (drawSent (announcing 6 true armed))).coils[6].state = .kick := by decide +kernel
/-- A carried announce whose frame reported too little, and a cut DRAW that ends in DUPLICATE. -/
def underReported : State :=
  sent (drawOfState 0 armed) (inSeries .draw 0 false (announcing 6 true armed))
def cutInDuplicate : State :=
  sent (drawFrameOf armed) (inSeries .draw 0 true ((linkIn .duplicate armed).onLink fun l => { l with abandonCount := 2 }))
theorem test_witness_AttemptSucceeds_marks :
    (∃ w, underReported.bus.wire = some w ∧ byteAt w.frame.payload 0 ≠ reportedDraw (run .txAttemptSuccess underReported)) ∧
    mayMark underReported = true ∧ underReported.bus.drawPending = false ∧
    cutInDuplicate.bus.series = some { kind := .draw, failed := 0, cut := true } := by
  refine ⟨⟨_, rfl, ?_⟩, ?_⟩ <;> decide +kernel
/-- R40 step 2, and Table 9-3: the count changes in ANNOUNCED and ARMED alone. -/
theorem test_draw_completes_marks :
    (run .txAttemptSuccess underReported).bus.drawPending = true ∧
    (run .txAttemptSuccess cutInDuplicate).link.abandonCount = 2 ∧
    (run .txAttemptSuccess (drawSent (armed.onLink fun l => { l with abandonCount := 2 }))).link.abandonCount = 0 := by
  decide +kernel
theorem test_reply_completes :
    (run .txAttemptSuccess (replyOf restartReply)).retained.cause = .serviceRestart ∧
    (run .txAttemptSuccess (replyOf (okWith 1 .status))).bus.general = [] := by decide +kernel

/-- Section 11.6, steps 4 to 7: SWITCH_GAP and PEER_STALE sampled; RAIL_SAG and PEER_STALE raised on the wire. -/
def events4 : State :=
  (inSeries .reply 0 false (armed.onBus fun b => { b with general := [.reply (okWith 2 .events)] })).onService
    fun v => { v with events := 0x00C0, raised := 0x0040 }
def events6 : State := raise .peerStale (raise .railSag (run .txWaitExpiry events4))
def events7 : State :=
  run .txAttemptSuccess (events6.onBus fun b => { b with wire := b.wire.map fun w => { w with timer := done w.timer.limit } })
theorem test_events_kept : events6.service.raised = 0x0880 ∧ events7.service.events = 0x0880 := by decide +kernel

/-- An attempt at the stop bit of its first byte. -/
def atFirstStop (k : SeriesKind) (failed : Nat) (cut : Bool) (s : State) : State :=
  (inSeries k failed cut s).onBus fun b =>
    { b with wire := some { frame := fr 6 0 2 [], timer := { elapsed := bits 10, limit := bits 60 }, clashAt := none } }
theorem test_witness_AttemptFails :
    ∀ x ∈ [(6, false), (7, false), (0, true)], ∀ k ∈ [SeriesKind.draw, .switch, .reply],
      let s := atFirstStop k x.1 x.2 armed
      s.bus.series = some { kind := k, failed := x.1, cut := x.2 } ∧ atStopBit s = true := by decide +kernel
/-- An abandoned DRAW with an entry ANNOUNCING: the entry returns to QUEUED at its place. -/
theorem test_abandon_withdraws :
    queueWithdrawn (announcing 6 true armed) ≠ (announcing 6 true armed).sched.queue ∧
    (run .txAbandon (atFirstStop .draw 7 false (announcing 6 true armed))).sched.queue =
      queueWithdrawn (announcing 6 true armed) := by decide +kernel
/-- The stop bit of the contended third byte. -/
theorem test_witness_AttemptFails_clash :
    (inSeries .draw 0 false (wired (req [1#8]) 30 (some 120) armed)).bus.wire = some (wireOf (req [1#8]) 30 (some 120)) ∧
    120 ≤ (wireOf (req [1#8]) 30 (some 120)).timer.elapsed ∧
    atStopBit (inSeries .draw 0 false (wired (req [1#8]) 30 (some 120) armed)) = true := by decide +kernel
theorem test_abandon :
    (run .txAbandon (atFirstStop .draw 7 false armed)).link.abandonCount = 1 ∧
    (run .txAbandon (atFirstStop .draw 7 false armed)).service.counters[3] = 1 ∧
    (run .txAttemptFailure (atFirstStop .draw 0 false armed)).bus.series =
      some { kind := .draw, failed := 1, cut := false } := by decide +kernel

/-! ### Witnesses: the link -/

def windowOver : State := listenOver.onLink fun l => { l with listenWindow := some (done (cs 30)) }
def announcedOver : State := armed.onLink fun l => { l with state := .announced, announcedTimer := some (done (cs 10)) }
def silent : State := armed.onLink fun l => { l with silence := some (done (cs 80)) }
def abandoned : State := armed.onLink fun l => { l with abandonCount := 3 }
theorem test_witness_LinkTimers :
    windowOver.link.state = .listen ∧ timerReached windowOver.link.listenWindow = true ∧
    announcedOver.link.state = .announced ∧ timerReached announcedOver.link.announcedTimer = true ∧
    silent.link.state = .armed ∧ timerReached silent.link.silence = true ∧ abandoned.link.state = .armed ∧
    3 ≤ abandoned.link.abandonCount := by decide +kernel
theorem test_link_timers :
    (run .listenWindowExpiry windowOver).bus.drawPending = true ∧
    (run .announcedTimerExpiry announcedOver).link.state = .armed ∧ (run .linkLost silent).link.state = .listen ∧
    (run .linkLost abandoned).service.events = 0x4000 := by decide +kernel
def stalePeer : Peer := { peerFive with silence := { elapsed := cs 30, limit := cs 200 } }
def gonePeer : Peer := { peerFive with silence := done (cs 200) }
def peered (p : Peer) : State := armed.onLink fun l => { l with peers := [p] }
theorem test_witness_PeersAndQuality :
    peerAt 5 (peered stalePeer) = some stalePeer ∧ stalePeer.stale = false ∧
    cs (3 * max armed.settings.beat stalePeer.beat) ≤ stalePeer.silence.elapsed ∧
    peerAt 5 (peered gonePeer) = some gonePeer ∧ gonePeer.silence.limit ≤ gonePeer.silence.elapsed ∧
    256 ≤ (windowFull 10 armed).link.windowFrames ∧ qualityRuns (windowFull 10 armed).link.state = true := by decide +kernel
theorem test_peers_and_quality :
    (run (.peerStaleExpiry 5) (peered stalePeer)).service.events = 0x80 ∧
    (run (.peerRemovalExpiry 5) (peered gonePeer)).link.peers = [] ∧
    (run .qualityWindowEnd (windowFull 10 armed)).link.degraded = true ∧
    (run .qualityWindowEnd (windowFull 9 armed)).link.degraded = false := by decide +kernel

end Sys2Proof.Tests
end

section
/-! The fire queue and the coil requests: every step keeps the queue sound (R5, R6, R34), and each request is
answered as R2, R3 and R7 to R9 say.  The queue's part of `QueueHolds` is `QueueSound`, which speaks of the queue and
the announce record alone; what an operation does to the two is shown sound there, once, and the operations and rows
follow. -/

namespace Sys2Proof.Machine

/-! ### A sound queue -/

/-- R5, R34: one entry of the queue, with announce record `a`. -/
abbrev EntrySound (cs : Vector CoilSettings 16) (a : Option Announce) (e : Entry) : Prop :=
  cs[e.coil].cls ≠ .flipper ∧ 1 ≤ e.pulses ∧ e.pulses ≤ 15 ∧
    (e.phase = .announcing ↔ a.map Announce.coil = some e.coil)

/-- R6: one entry may stand ahead of another. -/
abbrev StandsAhead (cs : Vector CoilSettings 16) (x y : Entry) : Prop :=
  x.coil ≠ y.coil ∧ cs[x.coil].priority ≤ cs[y.coil].priority

/-- R5, R6, R34: what `QueueHolds` says of the queue and the announce record, by the coil settings. -/
structure QueueSound (cs : Vector CoilSettings 16) (q : List Entry) (a : Option Announce) : Prop where
  length : q.length ≤ 12
  ordered : q.Pairwise (StandsAhead cs)
  entries : ∀ e ∈ q, EntrySound cs a e
  announced : ∀ x ∈ a, ∃ e ∈ q, e.coil = x.coil

/-- Every reflex entry asks for 1–15 pulses (R93, R94). -/
abbrev ReflexCountsHold (t : ReflexTable) : Prop := ∀ slot ∈ t.entries.toList, ∀ e ∈ slot, e.countHolds = true

/-- R20: no entry, and no announce, while the link is OFFLINE. -/
abbrev EmptyOffline (s : State) : Prop := s.link.state = .offline → s.sched.queue = [] ∧ s.sched.announce = none

theorem queueHolds_iff (s : State) : QueueHolds s ↔
    QueueSound s.settings.coils s.sched.queue s.sched.announce ∧ ReflexCountsHold s.reflex ∧ EmptyOffline s ∧
      LoadsOffline s :=
  ⟨fun ⟨hlen, hord, hent, hann, hrest⟩ => ⟨⟨hlen, hord, hent, hann⟩, hrest⟩,
    fun ⟨⟨hlen, hord, hent, hann⟩, hrest⟩ => ⟨hlen, hord, hent, hann, hrest⟩⟩

theorem QueueHolds.sound {s : State} (h : QueueHolds s) :
    QueueSound s.settings.coils s.sched.queue s.sched.announce := ((queueHolds_iff s).1 h).1

theorem QueueHolds.reflexCounts {s : State} (h : QueueHolds s) : ReflexCountsHold s.reflex :=
  ((queueHolds_iff s).1 h).2.1

theorem QueueHolds.emptyOffline {s : State} (h : QueueHolds s) : EmptyOffline s := ((queueHolds_iff s).1 h).2.2.1

theorem QueueHolds.loadsOffline {s : State} (h : QueueHolds s) : LoadsOffline s := ((queueHolds_iff s).1 h).2.2.2

theorem queueSound_empty (cs : Vector CoilSettings 16) : QueueSound cs [] none :=
  ⟨by simp, .nil, by simp, by simp⟩

/-! ### What the scheduler does to the queue and the announce record -/

section
variable {cs : Vector CoilSettings 16} {q : List Entry} {a : Option Announce}

/-- Entries changed in their places, of which some then leave. -/
theorem QueueSound.filter_map (h : QueueSound cs q a) (f : Entry → Entry) (p : Entry → Bool)
    {a' : Option Announce} (hcoil : ∀ e, (f e).coil = e.coil)
    (hent : ∀ e ∈ q, p (f e) = true → EntrySound cs a' (f e))
    (hann : ∀ x ∈ a', ∃ e ∈ q, p (f e) = true ∧ e.coil = x.coil) :
    QueueSound cs ((q.map f).filter p) a' where
  length := (List.length_filter_le ..).trans (by simpa using h.length)
  ordered := (h.ordered.map f fun x y hxy => by simpa [StandsAhead, hcoil] using hxy).filter p
  entries := by
    simp only [List.mem_filter, List.mem_map]
    rintro _ ⟨⟨e, he, rfl⟩, hp⟩
    exact hent e he hp
  announced := fun x hx => by
    obtain ⟨e, he, hp, hc⟩ := hann x hx
    exact ⟨f e, List.mem_filter.2 ⟨List.mem_map_of_mem he, hp⟩, (hcoil e).trans hc⟩

/-- Entries changed in their places. -/
theorem QueueSound.map (h : QueueSound cs q a) (f : Entry → Entry) {a' : Option Announce}
    (hcoil : ∀ e, (f e).coil = e.coil) (hent : ∀ e ∈ q, EntrySound cs a' (f e))
    (hann : ∀ x ∈ a', ∃ e ∈ q, e.coil = x.coil) : QueueSound cs (q.map f) a' := by
  simpa using h.filter_map f (fun _ => true) hcoil (fun e he _ => hent e he) (by simpa using hann)

/-- An announce record with the same coil serves as well. -/
theorem QueueSound.of_coil (h : QueueSound cs q a) {a' : Option Announce}
    (ha : a'.map Announce.coil = a.map Announce.coil) : QueueSound cs q a' where
  length := h.length
  ordered := h.ordered
  entries := fun e he => by simpa [EntrySound, ha] using h.entries e he
  announced := fun x hx => by
    have hx' : a.map Announce.coil = some x.coil := by rw [← ha, Option.mem_def.1 hx]; rfl
    obtain ⟨y, hy, hc⟩ := Option.map_eq_some_iff.1 hx'
    rw [← hc]
    exact h.announced y hy

theorem announceWithout_eq (c : CoilNo) (a : Option Announce) :
    announceWithout c a = if a.map Announce.coil = some c then none else a := by
  cases a with
  | none => rfl
  | some x => by_cases hx : x.coil = c <;> simp [announceWithout, hx]

theorem mem_announceWithout {c : CoilNo} {x : Announce} : x ∈ announceWithout c a ↔ x ∈ a ∧ x.coil ≠ c := by
  rw [announceWithout_eq]
  split
  next hc =>
    refine ⟨fun hx => by simp at hx, fun ⟨hx, hne⟩ => absurd ?_ hne⟩
    simpa [Option.mem_def.1 hx] using hc
  next hc => exact ⟨fun hx => ⟨hx, fun hxc => hc (by simp [Option.mem_def.1 hx, hxc])⟩, And.left⟩

theorem announceWithout_coil_eq_some {c d : CoilNo} :
    (announceWithout c a).map Announce.coil = some d ↔ a.map Announce.coil = some d ∧ d ≠ c := by
  rw [announceWithout_eq]
  split
  next hc => exact ⟨fun h => by simp at h, fun ⟨hd, hne⟩ => absurd (Option.some.inj (hd.symm.trans hc)) hne⟩
  next hc => exact ⟨fun hd => ⟨hd, fun hdc => hc (hdc ▸ hd)⟩, And.left⟩

/-- R13 to R15, R38: a removal. -/
theorem QueueSound.dropEntry (h : QueueSound cs q a) (c : CoilNo) :
    QueueSound cs (dropEntry c q) (announceWithout c a) := by
  have hent : ∀ e ∈ q, e.coil ≠ c → EntrySound cs (announceWithout c a) e := by
    intro e he hc
    obtain ⟨hcls, hlo, hhi, hphase⟩ := h.entries e he
    exact ⟨hcls, hlo, hhi, by rw [announceWithout_coil_eq_some, hphase]; simp [hc]⟩
  have hann : ∀ x ∈ announceWithout c a, ∃ e ∈ q, e.coil ≠ c ∧ e.coil = x.coil := by
    intro x hx
    obtain ⟨hxa, hxc⟩ := mem_announceWithout.1 hx
    obtain ⟨e, he, hce⟩ := h.announced x hxa
    exact ⟨e, he, hce ▸ hxc, hce⟩
  simpa [Machine.dropEntry] using
    h.filter_map id (fun e => e.coil ≠ c) (fun _ => rfl) (by simpa using hent) (by simpa using hann)

/-- R10: a kick delivered from the coil's entry, whose announce, if it had one, ends with it. -/
theorem QueueSound.useEntry (h : QueueSound cs q a) (c : CoilNo) :
    QueueSound cs (useEntry c q) (announceWithout c a) := by
  refine h.filter_map _ _ (fun e => by split <;> rfl) (fun e he hp => ?_) fun x hx => ?_
  · obtain ⟨hcls, hlo, hhi, hphase⟩ := h.entries e he
    by_cases hc : e.coil = c
    · simp only [hc, if_true, decide_true, Bool.true_and, Bool.not_eq_true', decide_eq_false_iff_not] at hp ⊢
      exact ⟨hc ▸ hcls, by simp only []; omega, by simp only []; omega,
        by rw [announceWithout_coil_eq_some]; simp⟩
    · simp only [if_neg hc]
      exact ⟨hcls, hlo, hhi, by rw [announceWithout_coil_eq_some, hphase]; simp [hc]⟩
  · obtain ⟨hxa, hxc⟩ := mem_announceWithout.1 hx
    obtain ⟨e, he, hce⟩ := h.announced x hxa
    have hc : e.coil ≠ c := hce ▸ hxc
    exact ⟨e, he, by simp [hc], hce⟩

/-- R37: the ANNOUNCING entry returns to QUEUED. -/
theorem QueueSound.withdrawn {x : Announce} (h : QueueSound cs q (some x)) :
    QueueSound cs (mapEntry x.coil (fun e => { e with phase := .queued }) q) none := by
  refine h.map _ (fun e => by split <;> rfl) (fun e he => ?_) (by simp)
  obtain ⟨hcls, hlo, hhi, hphase⟩ := h.entries e he
  by_cases hc : e.coil = x.coil
  · simp only [hc, if_true]
    exact ⟨hc ▸ hcls, hlo, hhi, by simp⟩
  · simp only [if_neg hc]
    exact ⟨hcls, hlo, hhi, by rw [hphase]; simpa using Ne.symm hc⟩

/-- R34: an entry becomes the ANNOUNCING one, where none was. -/
theorem QueueSound.announce (h : QueueSound cs q none) {e : Entry} (he : e ∈ q) {x : Announce}
    (hx : x.coil = e.coil) :
    QueueSound cs (mapEntry e.coil (fun e => { e with phase := .announcing }) q) (some x) := by
  refine h.map _ (fun e => by split <;> rfl) (fun y hy => ?_) (by simpa [hx] using ⟨e, he, rfl⟩)
  obtain ⟨hcls, hlo, hhi, hphase⟩ := h.entries y hy
  by_cases hc : y.coil = e.coil
  · simp only [hc, if_true]
    exact ⟨hc ▸ hcls, hlo, hhi, by simp [hx]⟩
  · simp only [if_neg hc]
    exact ⟨hcls, hlo, hhi, by rw [hphase]; simpa [hx] using Ne.symm hc⟩

/-- R7: a PULSE request merges into the coil's entry. -/
theorem QueueSound.merge (h : QueueSound cs q a) (c : CoilNo) (n : Nat) :
    QueueSound cs (mapEntry c (fun e => { e with pulses := min (e.pulses + n) 15 }) q) a := by
  refine h.map _ (fun e => by split <;> rfl) (fun e he => ?_) h.announced
  obtain ⟨hcls, hlo, hhi, hphase⟩ := h.entries e he
  by_cases hc : e.coil = c
  · simp only [hc, if_true]
    exact ⟨hc ▸ hcls, by simp only []; omega, by simp only []; omega, hc ▸ hphase⟩
  · simpa only [if_neg hc] using ⟨hcls, hlo, hhi, hphase⟩

/-- R12, R35: the timers of the queue run. -/
theorem QueueSound.elapse (h : QueueSound cs q a) (v : Vector CoilChannel 16) :
    QueueSound cs (q.map (Entry.elapse v)) (a.map Announce.elapse) := by
  have hmap : QueueSound cs (q.map (Entry.elapse v)) a := by
    refine h.map _ (fun e => by unfold Entry.elapse; split <;> rfl) (fun e he => ?_) h.announced
    unfold Entry.elapse
    split <;> exact h.entries e he
  exact hmap.of_coil (by simp [Announce.elapse, Function.comp_def])

theorem mem_insertEntry {prio : CoilNo → Nat} {e x : Entry} : x ∈ insertEntry prio e q ↔ x = e ∨ x ∈ q := by
  induction q with
  | nil => simp [insertEntry]
  | cons y ys ih => simp only [insertEntry]; split <;> simp [ih, or_left_comm]

/-- R6: the place of a new entry keeps the order. -/
theorem insertEntry_ordered {e : Entry} (hq : q.Pairwise (StandsAhead cs)) (hnew : ∀ x ∈ q, x.coil ≠ e.coil) :
    (insertEntry (fun c => cs[c].priority) e q).Pairwise (StandsAhead cs) := by
  induction q with
  | nil => simp [insertEntry]
  | cons y ys ih =>
    obtain ⟨hy, hys⟩ := List.pairwise_cons.1 hq
    obtain ⟨hye, hyse⟩ := List.forall_mem_cons.1 hnew
    simp only [insertEntry]
    split
    next hlt =>
      refine List.pairwise_cons.2 ⟨fun x hx => ⟨(hnew x hx).symm, ?_⟩, hq⟩
      rcases List.mem_cons.1 hx with rfl | hx
      · exact hlt.le
      · exact hlt.le.trans (hy x hx).2
    next hle =>
      refine List.pairwise_cons.2 ⟨fun x hx => ?_, ih hys hyse⟩
      rcases mem_insertEntry.1 hx with rfl | hx
      · exact ⟨hye, not_lt.1 hle⟩
      · exact hy x hx

/-- R4, R6: a new entry, for a coil that has none. -/
theorem QueueSound.insert (h : QueueSound cs q a) {e : Entry} (hlen : q.length < 12)
    (hnew : ∀ x ∈ q, x.coil ≠ e.coil) (hcls : cs[e.coil].cls ≠ .flipper) (hlo : 1 ≤ e.pulses) (hhi : e.pulses ≤ 15)
    (hphase : e.phase = .queued) : QueueSound cs (insertEntry (fun c => cs[c].priority) e q) a where
  length := by rw [insertEntry_length]; omega
  ordered := insertEntry_ordered h.ordered hnew
  entries := fun x hx => by
    rcases mem_insertEntry.1 hx with rfl | hx
    · refine ⟨hcls, hlo, hhi, by simp [hphase], fun hx => ?_⟩
      obtain ⟨y, hy, hc⟩ := Option.map_eq_some_iff.1 hx
      obtain ⟨z, hz, hzc⟩ := h.announced y hy
      exact absurd (hzc.trans hc) (hnew z hz)
    · exact h.entries x hx
  announced := fun x hx => by
    obtain ⟨y, hy, hc⟩ := h.announced x hx
    exact ⟨y, mem_insertEntry.2 (.inr hy), hc⟩

end

/-! ### The shared operations keep the fire queue sound

An operation that changes none of the fields `QueueHolds` reads keeps it by that alone: `h` itself proves it of the
changed state. -/

section
variable {s t : State}

/-- An operation that leaves alone every block `QueueHolds` reads. -/
theorem QueueHolds.of_framed {l : List Block} (h : QueueHolds s) (hf : Framed l s t)
    (hl : ∀ b ∈ [Block.settings, .sched, .reflex, .link, .startUp], b ∉ l) : QueueHolds t := by
  have hset : t.settings = s.settings := hf.2 .settings (hl _ (by simp))
  have hsched : t.sched = s.sched := hf.2 .sched (hl _ (by simp))
  have hreflex : t.reflex = s.reflex := hf.2 .reflex (hl _ (by simp))
  have hlink : t.link = s.link := hf.2 .link (hl _ (by simp))
  have hstart : t.startUp = s.startUp := hf.2 .startUp (hl _ (by simp))
  simpa only [QueueHolds, LoadsOffline, hset, hsched, hreflex, hlink, hstart] using h

/-- A change of the scheduler that keeps the queue sound, and empty if it was. -/
theorem QueueHolds.onSched (h : QueueHolds s) (f : Scheduler → Scheduler)
    (hsound : QueueSound s.settings.coils (f s.sched).queue (f s.sched).announce)
    (hempty : s.sched.queue = [] → s.sched.announce = none → (f s.sched).queue = [] ∧ (f s.sched).announce = none) :
    QueueHolds (s.onSched f) :=
  (queueHolds_iff _).2 ⟨hsound, h.reflexCounts, fun hoff => (h.emptyOffline hoff).elim hempty, h.loadsOffline⟩

/-- The link stays out of OFFLINE, or leaves it once the load has ended. -/
theorem QueueHolds.onLink (h : QueueHolds s) (f : LinkUnit → LinkUnit)
    (hf : (f s.link).state ≠ .offline) (hs : s.link.state ≠ .offline ∨ s.startUp.loader = .ended) :
    QueueHolds (s.onLink f) := by
  obtain ⟨hsound, hreflex, -, hhold, hload⟩ := (queueHolds_iff s).1 h
  exact (queueHolds_iff _).2 ⟨hsound, hreflex, fun hoff => absurd hoff hf, hhold, fun hne =>
    hs.elim (fun hs => absurd (hload hne) hs) (fun hended => absurd hended hne)⟩

theorem QueueHolds.ite {p : Prop} [Decidable p] (ht : QueueHolds s) (he : QueueHolds t) :
    QueueHolds (if p then s else t) := by split <;> assumption

theorem QueueHolds.ite_then {p : Prop} [Decidable p] {f : State → State} (h : QueueHolds s)
    (hf : QueueHolds s → QueueHolds (f s)) : QueueHolds (if p then f s else s) := (hf h).ite h

theorem QueueHolds.ite_else {p : Prop} [Decidable p] {f : State → State} (h : QueueHolds s)
    (hf : QueueHolds s → QueueHolds (f s)) : QueueHolds (if p then s else f s) := h.ite (hf h)

theorem QueueHolds.promptScan (h : QueueHolds s) : QueueHolds (promptScan s) := h

theorem QueueHolds.raise (h : QueueHolds s) (e : StickyEvent) : QueueHolds (raise e s) := h

theorem QueueHolds.count (h : QueueHolds s) (c : Counter) : QueueHolds (count c s) := h

theorem QueueHolds.markDraw (h : QueueHolds s) : QueueHolds (markDraw s) := h.of_framed (markDraw_framed s) (by simp)

theorem QueueHolds.noteDraw (h : QueueHolds t) : QueueHolds (noteDraw s t) := by rw [noteDraw_eq]; exact h

theorem QueueHolds.noteLink (h : QueueHolds s) : QueueHolds (noteLink s) := h.markDraw.promptScan

theorem QueueHolds.heard (h : QueueHolds s) : QueueHolds (heard s) := by unfold Machine.heard; split <;> exact h

/-! #### The queue -/

theorem QueueHolds.removeEntry (h : QueueHolds s) (c : CoilNo) : QueueHolds (removeEntry c s) :=
  (h.onSched _ (h.sound.dropEntry c) fun hq ha => by simp [hq, ha, dropEntry, announceWithout]).promptScan.noteDraw

theorem QueueHolds.removeCounted (h : QueueHolds s) (n : Counter) (c : CoilNo) : QueueHolds (removeCounted n c s) := by
  unfold Machine.removeCounted
  split
  · exact (h.removeEntry c).count n
  · exact h

theorem QueueHolds.flushQueue (h : QueueHolds s) : QueueHolds (flushQueue s) :=
  (h.onSched _ (queueSound_empty _) fun _ _ => ⟨rfl, rfl⟩).promptScan.noteDraw

theorem QueueHolds.withdraw (h : QueueHolds s) : QueueHolds (withdraw s) := by
  unfold Machine.withdraw
  split
  next => exact h
  next a ha =>
    have hsound := (ha ▸ h.sound).withdrawn
    exact (h.onSched _ hsound fun _ hnone => by simp [ha] at hnone).promptScan.noteDraw

theorem QueueHolds.createEntry (h : QueueHolds s) {c : CoilNo} (k : EntryKind) {n : Nat} (o : Origin)
    (hlink : s.link.state ≠ .offline) (hlen : s.sched.queue.length < 12) (hnew : ∀ e ∈ s.sched.queue, e.coil ≠ c)
    (hcls : s.settings.coils[c].cls ≠ .flipper) (hlo : 1 ≤ n) (hhi : n ≤ 15) : QueueHolds (createEntry c k n o s) :=
  (queueHolds_iff _).2 ⟨h.sound.insert hlen hnew hcls hlo hhi rfl, h.reflexCounts, fun hoff => absurd hoff hlink,
    h.loadsOffline⟩

/-! #### The channels -/

theorem QueueHolds.moveRaw (h : QueueHolds s) (c : CoilNo) (new : CoilChannel) : QueueHolds (moveRaw c new s) := by
  unfold Machine.moveRaw
  simp only []
  split <;> exact h

theorem QueueHolds.moveChannel (h : QueueHolds s) (c : CoilNo) (new : CoilChannel) :
    QueueHolds (moveChannel c new s) := (h.moveRaw c new).noteDraw

theorem QueueHolds.flipperKick (h : QueueHolds s) (c : CoilNo) : QueueHolds (flipperKick c s) := h.moveChannel c _

theorem QueueHolds.restEnds (h : QueueHolds s) (c : CoilNo) : QueueHolds (restEnds c s) := by
  unfold Machine.restEnds
  simp only []
  split
  · exact h.flipperKick c
  · exact h.moveChannel c _

theorem QueueHolds.enterRest (h : QueueHolds s) (c : CoilNo) : QueueHolds (enterRest c s) := by
  unfold Machine.enterRest
  simp only []
  split
  · exact (h.moveChannel c _).restEnds c
  · exact h.moveChannel c _

theorem QueueHolds.rechooseAll (h : QueueHolds s) : QueueHolds (rechooseAll s) :=
  h.of_framed (rechooseAll_framed s) (by simp)

theorem QueueHolds.reportFault (h : QueueHolds s) (c : CoilNo) (k : FaultKind) : QueueHolds (reportFault c k s) :=
  ((h.raise _).of_framed (latchKind_framed c k _) (by simp)).removeCounted _ c

theorem QueueHolds.enterFault (h : QueueHolds s) (c : CoilNo) (k : FaultKind) : QueueHolds (enterFault c k s) :=
  (h.moveChannel c _).reportFault c k

theorem QueueHolds.endChannel (h : QueueHolds s) (c : CoilNo) : QueueHolds (endChannel c s) := by
  unfold Machine.endChannel
  split
  · exact h.moveChannel c _
  · exact h

/-- A fold of steps that each keep the queue sound keeps it sound. -/
theorem QueueHolds.foldl {α : Type} (h : QueueHolds s) (f : State → α → State) (xs : List α)
    (hf : ∀ s a, QueueHolds s → QueueHolds (f s a)) : QueueHolds (xs.foldl f s) :=
  List.foldlRecOn xs f h fun s hs a _ => hf s a hs

theorem QueueHolds.endAllChannels (h : QueueHolds s) : QueueHolds (endAllChannels s) := by
  unfold Machine.endAllChannels
  exact h.foldl _ _ fun _ c hs => hs.endChannel c

theorem QueueHolds.endQueuedChannels (h : QueueHolds s) : QueueHolds (endQueuedChannels s) := by
  unfold Machine.endQueuedChannels
  exact h.foldl _ _ fun _ c hs => hs.ite_else fun hs => hs.endChannel c

/-- R10, R32: a kick starts from the queue; the coil's entry may lose its announce at that moment, so what is asked of
the queue before is that it is sound once the pulse has been taken. -/
theorem queueHolds_startKickRaw (c : CoilNo)
    (hsound : QueueSound s.settings.coils (useEntry c s.sched.queue) s.sched.announce)
    (hreflex : ReflexCountsHold s.reflex) (hempty : EmptyOffline s) (hloads : LoadsOffline s) :
    QueueHolds (startKickRaw c s) := by
  have hused : QueueHolds (s.onSched fun q => { q with queue := useEntry c q.queue }) :=
    (queueHolds_iff _).2 ⟨hsound, hreflex, fun hoff => by simp [hempty hoff, useEntry, mapEntry], hloads⟩
  exact (hused.count _).moveRaw c _

theorem QueueHolds.startKick (h : QueueHolds s) (c : CoilNo) (hc : ∀ a ∈ s.sched.announce, a.coil ≠ c) :
    QueueHolds (startKick c s) := by
  have hsame : announceWithout c s.sched.announce = s.sched.announce := by
    cases ha : s.sched.announce with
    | none => rfl
    | some a => simp [announceWithout, hc a ha]
  exact (queueHolds_startKickRaw c (hsame ▸ h.sound.useEntry c) h.reflexCounts h.emptyOffline h.loadsOffline).noteDraw

/-! #### Changes of the rail, the drive and the link -/

theorem QueueHolds.railReport (h : QueueHolds s) (old new : RailState) : QueueHolds (railReport old new s) := by
  unfold Machine.railReport
  split <;> exact h

theorem QueueHolds.changeRail (h : QueueHolds s) (new : RailState) : QueueHolds (changeRail new s) := by
  have hrail : QueueHolds (s.onRail fun _ => railEntry new s.pins.rail s.settings.vOn s.settings.vSag) := h
  exact (((((hrail.railReport s.rail.state new).ite_then withdraw).ite_then endAllChannels).ite_else
    rechooseAll).ite_else markDraw).promptScan

theorem QueueHolds.cutTransmit (h : QueueHolds s) : QueueHolds (cutTransmit s) := h

theorem QueueHolds.enterSafe (h : QueueHolds s) : QueueHolds (enterSafe s) := by
  have hsafe : QueueHolds (s.onFaultLine fun f => { f with drive := .safe }) := h
  exact (hsafe.raise _).endAllChannels.flushQueue.markDraw.promptScan

theorem QueueHolds.enterDuplicate (h : QueueHolds s) (hs : s.link.state ≠ .offline ∨ s.startUp.loader = .ended) :
    QueueHolds (enterDuplicate s) := by
  have hlink : QueueHolds (s.onLink fun l =>
      { l with state := .duplicate, listenWindow := none, announcedTimer := none, silence := none }) :=
    h.onLink _ (by simp) hs
  have hmark : ∀ {u : State}, QueueHolds u → QueueHolds (u.onFaultLine fun f =>
      { f with duplicate := f.duplicate || u.settings.causeMask.duplicate }) := id
  exact (hmark (hlink.raise .duplicate)).flushQueue.endQueuedChannels.cutTransmit.noteLink

end

/-! ### Coil requests: the checks, and which coils have an entry -/

theorem entryOf_isSome {s : State} {c : CoilNo} : (entryOf s c).isSome ↔ ∃ e ∈ s.sched.queue, e.coil = c := by
  simp [entryOf]

theorem entryOf_eq_none {s : State} {c : CoilNo} : entryOf s c = none ↔ ∀ e ∈ s.sched.queue, e.coil ≠ c := by
  simp [entryOf]

theorem linkRefuses_eq_true {l : LinkState} : linkRefuses l = true ↔ l = .held ∨ l = .duplicate := by
  simp [linkRefuses]

theorem actionSuits_eq_true {k : CoilClass} {a : CoilAction} : actionSuits k a = true ↔
    (k = .pulse ∧ a = .pulse) ∨ (k = .latch ∧ (a = .engage ∨ a = .release)) := by
  cases k <;> cases a <;> simp [actionSuits]

theorem passesChecks_iff {s : State} {c : CoilNo} {a : CoilAction} : PassesChecks c a s ↔
    linkRefuses s.link.state = false ∧ actionSuits s.settings.coils[c].cls a = true ∧
      s.coils[c].state ≠ .fault ∧ s.coils[c].state ≠ .lockout := by
  rw [actionSuits_eq_true, Bool.eq_false_iff, Ne, linkRefuses_eq_true, not_or, and_assoc]

section
variable (s : State) (c : CoilNo) (a : CoilAction) (n : Nat) (o : Origin)

/-- R2, R3, checks 1 to 3. -/
theorem request_of_refused (h : linkRefuses s.link.state = true ∨ actionSuits s.settings.coils[c].cls a = false ∨
    s.coils[c].state = .fault) : request c a n o s = (count .refused s, .refused) := by
  unfold request
  split
  · rfl
  next hlink =>
    split
    · rfl
    next hsuits => rw [if_pos ((h.resolve_left hlink).resolve_left hsuits)]

/-- R3, check 4. -/
theorem request_of_lockedOut (hlink : linkRefuses s.link.state = false)
    (hsuits : actionSuits s.settings.coils[c].cls a = true) (hstate : s.coils[c].state = .lockout) :
    request c a n o s = (count .lockedOut s, .lockedOut) := by
  unfold request
  rw [if_neg (by simp [hlink]), if_neg (by simp only [hsuits, Bool.true_eq_false, not_false_eq_true]),
    if_neg (by simp only [hstate, reduceCtorEq, not_false_eq_true]), if_pos hstate]

/-- R7 to R9: a request that passes every check goes to its action. -/
theorem request_of_passes : PassesChecks c a s → request c a n o s =
    match a with
    | .pulse => pulseRequest c n o s
    | .engage => engageRequest c o s
    | .release => releaseRequest c s := by
  intro h
  obtain ⟨hlink, hsuits, hfault, hlockout⟩ := passesChecks_iff.1 h
  cases a <;>
    simp only [request, hlink, hsuits, hfault, hlockout, Bool.false_eq_true, Bool.true_eq_false, if_false]

/-- R2, R3: a request passes the checks, or does nothing but count its outcome. -/
theorem request_passes_or_counted : PassesChecks c a s ∨ ∃ k, (request c a n o s).1 = count k s := by
  by_cases href : linkRefuses s.link.state = true ∨ actionSuits s.settings.coils[c].cls a = false ∨
      s.coils[c].state = .fault
  · exact .inr ⟨_, by rw [request_of_refused s c a n o href]⟩
  · obtain ⟨hlink, hsuits, hfault⟩ : linkRefuses s.link.state = false ∧
        actionSuits s.settings.coils[c].cls a = true ∧ s.coils[c].state ≠ .fault := by simpa using href
    by_cases hlockout : s.coils[c].state = .lockout
    · exact .inr ⟨_, by rw [request_of_lockedOut s c a n o hlink hsuits hlockout]⟩
    · exact .inl (passesChecks_iff.2 ⟨hlink, hsuits, hfault, hlockout⟩)

end

/-! ### Coil requests and the reflex walk keep the fire queue sound -/

section
variable {s : State}

theorem QueueHolds.pulseRequest (h : QueueHolds s) (c : CoilNo) {n : Nat} (o : Origin)
    (hlink : s.link.state ≠ .offline) (hcls : s.settings.coils[c].cls ≠ .flipper) (hlo : 1 ≤ n) (hhi : n ≤ 15) :
    QueueHolds (pulseRequest c n o s).1 := by
  unfold Machine.pulseRequest
  split
  next => exact (h.onSched _ (h.sound.merge c n) fun hq ha => by simp [hq, ha, mapEntry]).count _
  next hnone =>
    split
    next hlen => exact h.createEntry _ o hlink hlen (entryOf_eq_none.1 hnone) hcls hlo hhi
    next => exact (h.count _).raise _

theorem QueueHolds.engageRequest (h : QueueHolds s) (c : CoilNo) (o : Origin)
    (hlink : s.link.state ≠ .offline) (hcls : s.settings.coils[c].cls ≠ .flipper) :
    QueueHolds (engageRequest c o s).1 := by
  unfold Machine.engageRequest
  split
  · exact h.count _
  split
  · exact h.count _
  next hnone =>
    split
    next hlen =>
      rw [Option.not_isSome_iff_eq_none, entryOf_eq_none] at hnone
      exact h.createEntry _ o hlink hlen hnone hcls le_rfl (by decide)
    next => exact (h.count _).raise _

theorem QueueHolds.releaseRequest (h : QueueHolds s) (c : CoilNo) : QueueHolds (releaseRequest c s).1 := by
  unfold Machine.releaseRequest
  split
  · exact h.removeEntry c
  split
  · exact h.enterRest c
  · exact h

/-- R1 to R9: no coil request is taken in OFFLINE, and a PULSE request presents 1–15 pulses. -/
theorem QueueHolds.request (h : QueueHolds s) (c : CoilNo) (a : CoilAction) {n : Nat} (o : Origin)
    (hlink : s.link.state ≠ .offline) (hlo : 1 ≤ n) (hhi : n ≤ 15) : QueueHolds (request c a n o s).1 := by
  rcases request_passes_or_counted s c a n o with hpass | ⟨k, hk⟩
  · have hcls : s.settings.coils[c].cls ≠ .flipper := by
      obtain ⟨-, -, ⟨hcls, -⟩ | ⟨hcls, -⟩, -, -⟩ := hpass <;> rw [hcls] <;> decide
    rw [request_of_passes s c a n o hpass]
    cases a
    case pulse => exact h.pulseRequest c o hlink hcls hlo hhi
    case engage => exact h.engageRequest c o hlink hcls
    case release => exact h.releaseRequest c
  · rw [hk]
    exact h.count k

theorem request_link (c : CoilNo) (a : CoilAction) (n : Nat) (o : Origin) (s : State) :
    (request c a n o s).1.link = s.link := (request_framed c a n o s).2 .link (by simp)

/-- Every request of a walk's list presents 1–15 pulses. -/
abbrev ListCountsHold (l : List CoilRequest) : Prop := ∀ r ∈ l, 1 ≤ r.pulses ∧ r.pulses ≤ 15

theorem applyAction_framed (a : ReflexAction) (w : State × List CoilRequest) :
    Framed [.lamps] w.1 (applyAction a w).1 := by
  cases a
  case pulse | engage | release => exact Framed.refl _ _
  case lampOn n | lampOff n | lampToggle n | lampFlash n k => exact lampCommand_framed n _ w.1

theorem applyAction_counts {e : ReflexEntry} (he : e.countHolds = true) {w : State × List CoilRequest}
    (hw : ListCountsHold w.2) : ListCountsHold (applyAction e.action w).2 := by
  have happend : ∀ r : CoilRequest, 1 ≤ r.pulses ∧ r.pulses ≤ 15 → ListCountsHold (w.2 ++ [r]) := fun r hr =>
    List.forall_mem_append.2 ⟨hw, List.forall_mem_singleton.2 hr⟩
  cases ha : e.action with
  | pulse c n => exact happend _ (by simpa [ReflexEntry.countHolds, ha] using he)
  | engage c | release c => exact happend _ (by simp)
  | lampOn n | lampOff n | lampToggle n | lampFlash n k => exact hw

/-- R98: the walk changes lamps alone, and its list presents what the entries in use ask for. -/
theorem walk_spec (src sw : Nat) (k : EdgeKind) (s : State) (h : ReflexCountsHold s.reflex) :
    Framed [.lamps] s (walk src sw k s).1 ∧ ListCountsHold (walk src sw k s).2 := by
  unfold walk
  refine List.foldlRecOn (motive := fun w : State × List CoilRequest => Framed [.lamps] s w.1 ∧ ListCountsHold w.2) _ _
    ⟨Framed.refl _ s, List.forall_mem_nil _⟩ fun w ⟨hframe, hcounts⟩ slot hslot => ?_
  unfold walkEntry
  cases slot with
  | none => exact ⟨hframe, hcounts⟩
  | some e =>
    dsimp only
    split
    · exact ⟨hframe.trans (applyAction_framed e.action w), applyAction_counts (h _ hslot e rfl) hcounts⟩
    · exact ⟨hframe, hcounts⟩

theorem QueueHolds.answerList (h : QueueHolds s) (o : Origin) {l : List CoilRequest} (hl : ListCountsHold l)
    (hlink : s.link.state ≠ .offline) : QueueHolds (answerList o l s) := by
  unfold Machine.answerList
  refine (List.foldlRecOn (motive := fun u => QueueHolds u ∧ u.link.state ≠ .offline) l _ ⟨h, hlink⟩
    fun u ⟨hu, hul⟩ r hr => ⟨?_, by rwa [request_link]⟩).1
  obtain ⟨hlo, hhi⟩ := hl r hr
  exact hu.request r.coil r.action o hul hlo hhi

theorem QueueHolds.walkAnswered (h : QueueHolds s) (src sw : Nat) (k : EdgeKind) (o : Origin)
    (hlink : s.link.state ≠ .offline) : QueueHolds (Machine.answerList o (walk src sw k s).2 (walk src sw k s).1) := by
  obtain ⟨hframe, hcounts⟩ := walk_spec src sw k s h.reflexCounts
  have hsame : (walk src sw k s).1.link = s.link := hframe.2 .link (by simp)
  exact (h.of_framed hframe (by simp)).answerList o hcounts (by rwa [hsame])

theorem QueueHolds.localEdge (h : QueueHolds s) (src : Nat) (sw : SwitchNo) (k : EdgeKind) :
    QueueHolds (localEdge src sw k s) := by
  unfold Machine.localEdge
  split
  next hw => exact h.walkAnswered _ _ _ _ (by rintro hoff; simp [hoff, walksLocal] at hw)
  next => exact h

theorem QueueHolds.remoteEdge (h : QueueHolds s) (src sw : Nat) (k : EdgeKind) :
    QueueHolds (remoteEdge src sw k s) := by
  unfold Machine.remoteEdge
  split
  next hw => exact h.walkAnswered _ _ _ _ (by rintro hoff; simp [hoff, walksRemote] at hw)
  next => exact h

end

/-! ### The rows of the table keep the fire queue sound -/

section
variable {s : State}

/-! #### The scan and the announce -/

theorem QueueHolds.enterAnnouncing (h : QueueHolds s) {e : Entry} (he : e ∈ s.sched.queue)
    (hnone : s.sched.announce = none) : QueueHolds (enterAnnouncing e.coil s) :=
  (h.onSched _ ((hnone ▸ h.sound).announce he rfl) fun hq => by simp [hq] at he).noteDraw

theorem QueueHolds.scanQueue (h : QueueHolds s) : QueueHolds (scanQueue s) := by
  unfold Machine.scanQueue
  split
  next => exact h
  next e hcand =>
    have he : e ∈ s.sched.queue := List.mem_of_find?_eq_some hcand
    split
    next hnone =>
      have hkick : QueueHolds (Machine.startKick e.coil s) := h.startKick _ (by simp [hnone])
      exact (hkick.ite (h.enterAnnouncing he hnone)).ite h
    next a ha =>
      split
      · exact h
      next hne =>
        exact (h.startKick _ (by simpa [ha] using Ne.symm hne)).ite h

theorem QueueHolds.scan (h : QueueHolds s) : QueueHolds (scan s) := by
  have hscanned : QueueHolds (s.onSched fun q => { q with scanDue := false }) := h
  exact hscanned.scanQueue.ite h

theorem QueueHolds.retest (h : QueueHolds s) : QueueHolds (retest s) := by
  unfold Machine.retest
  split
  next => exact h
  next a ha =>
    have hcarried := h.sound.of_coil (a' := some { a with carried := true }) (by simp [ha])
    exact QueueHolds.ite (h.onSched _ hcarried fun _ hnone => by simp [ha] at hnone) h.withdraw

theorem QueueHolds.startAnnounced (h : QueueHolds s) : QueueHolds (startAnnounced s) := by
  unfold Machine.startAnnounced
  split
  next => exact h
  next a ha =>
    have hused : QueueSound s.settings.coils (useEntry a.coil s.sched.queue) none := by
      simpa [ha, announceWithout] using h.sound.useEntry a.coil
    have hkick : QueueHolds (startKickRaw a.coil (s.onSched fun q => { q with announce := none })) :=
      queueHolds_startKickRaw a.coil hused h.reflexCounts
        (fun hoff => ⟨(h.emptyOffline hoff).1, rfl⟩) h.loadsOffline
    exact QueueHolds.ite (hkick.noteDraw.promptScan.ite h.withdraw) h

/-! #### The channels, the switches and the heat -/

theorem QueueHolds.kickEnds (h : QueueHolds s) (c : CoilNo) : QueueHolds (kickEnds c s) := by
  unfold Machine.kickEnds
  dsimp only
  split
  · exact h.enterRest c
  · exact h.moveChannel c _
  · exact h.moveChannel c _

theorem QueueHolds.holdEnds (h : QueueHolds s) (c : CoilNo) : QueueHolds (holdEnds c s) := by
  have hmarked : QueueHolds (s.onCoils fun v => v.set c { v[c] with needsRelease := true }) := h
  exact (hmarked.enterRest c).ite (h.enterRest c)

theorem QueueHolds.senseChanges (h : QueueHolds s) (c : CoilNo) (r : Sense) : QueueHolds (senseChanges c r s) := by
  have hpin : QueueHolds (s.onPins fun p => { p with sense := p.sense.set c r }) := h
  have hsensed : QueueHolds ((s.onPins fun p => { p with sense := p.sense.set c r }).onCoils fun v =>
      v.set c (v[c].sensed r)) := h
  exact ((hsensed.enterFault c .short).ite hsensed).ite hpin

theorem QueueHolds.restartOff (h : QueueHolds s) (c : CoilNo) : QueueHolds (restartOff c s) := h

theorem QueueHolds.offCurrent (h : QueueHolds s) (c : CoilNo) : QueueHolds (offCurrent c s) := by
  have hstuck : QueueHolds (s.onCoils fun v =>
      v.set c { v[c] with faultKind := some .stuck, offTimer := some (startTimer stuckTime) }) := h
  exact ((h.restartOff c).ite (hstuck.reportFault c .stuck)).ite ((h.enterFault c .stuck).restartOff c)

theorem QueueHolds.flipperEdge (h : QueueHolds s) (sw : SwitchNo) (k : EdgeKind) :
    QueueHolds (flipperEdge sw k s) := by
  unfold Machine.flipperEdge
  refine h.foldl _ _ fun u c hu => ?_
  have hpress : QueueHolds (press c u) := hu.ite_then fun hu => hu.flipperKick c
  have hcleared : QueueHolds (u.onCoils fun v => v.set c { v[c] with needsRelease := false }) := hu
  have hrelease : QueueHolds (releaseFlipper c u) := hcleared.ite_then fun hu => hu.enterRest c
  refine QueueHolds.ite ?_ hu
  cases k
  case close => exact hpress
  case opened => exact hrelease

theorem QueueHolds.appendSwitch (h : QueueHolds s) (sw : SwitchNo) (k : EdgeKind) :
    QueueHolds (appendSwitch sw k s) := by
  unfold Machine.appendSwitch
  split
  · split <;> exact h
  · exact h

theorem QueueHolds.takeEdge (h : QueueHolds s) (sw : SwitchNo) : QueueHolds (takeEdge sw s) := by
  unfold Machine.takeEdge
  dsimp only
  refine QueueHolds.localEdge (QueueHolds.appendSwitch (QueueHolds.flipperEdge ?_ sw _) sw _) _ sw _
  exact h

theorem QueueHolds.switchInput (h : QueueHolds s) (sw : SwitchNo) (high : Bool) :
    QueueHolds (switchInput sw high s) := by
  unfold Machine.switchInput
  split
  · exact h
  · dsimp only
    split <;> exact h

theorem QueueHolds.thermalChannel (h : QueueHolds s) (c : CoilNo) : QueueHolds (thermalChannel c s) := by
  have hheat : QueueHolds (heatChannel c s) := by
    unfold heatChannel
    dsimp only
    split <;> exact h
  have hlockout : QueueHolds (classifyLockout (keptAtTrip c s) c (heatChannel c s)) := by
    unfold classifyLockout
    dsimp only
    split
    · exact ((hheat.moveChannel c _).removeCounted _ c).raise _
    · exact (hheat.moveChannel c _).ite hheat
  exact hlockout.of_framed (classifyLevel_framed c _) (by simp)

theorem QueueHolds.onThermal (h : QueueHolds s) (f : Thermal → Thermal) : QueueHolds (s.onThermal f) := h

theorem QueueHolds.thermalInterval (h : QueueHolds s) : QueueHolds (thermalInterval s) := by
  have hall : QueueHolds (allCoils.foldl (fun s c => Machine.thermalChannel c s) s) :=
    h.foldl _ allCoils fun _ c hu => hu.thermalChannel c
  unfold Machine.thermalInterval
  exact (hall.onThermal _).ite h

/-! #### The lamps -/

theorem QueueHolds.lampHalf (h : QueueHolds s) (n : LampNo) : QueueHolds (lampHalf n s) := by
  unfold Machine.lampHalf
  split
  · exact h
  · split
    · exact h.of_framed ((onLamps_framed _ s).trans (followDemand_framed n _)) (by simp)
    · exact h

theorem QueueHolds.takeLampFrame (h : QueueHolds s) (payload : List Byte) : QueueHolds (takeLampFrame payload s) := by
  unfold Machine.takeLampFrame
  dsimp only
  split
  · exact h.of_framed (commandLamps_framed ..) (by simp)
  · exact h.count _

/-! #### The rail and the fault line -/

theorem QueueHolds.judgeRail (h : QueueHolds s) : QueueHolds (judgeRail s) := by
  unfold Machine.judgeRail
  dsimp only
  split
  · exact (h.changeRail _).ite h
  · exact (h.changeRail _).ite h
  · split
    · exact h.changeRail _
    · exact h
  · split
    · exact h.changeRail _
    · exact h

theorem QueueHolds.railReading (h : QueueHolds s) (v : Nat) : QueueHolds (railReading v s) := by
  have hpin : QueueHolds (s.onPins fun p => { p with rail := v }) := h
  exact hpin.judgeRail.ite hpin

theorem QueueHolds.lineAsserted (h : QueueHolds s) : QueueHolds (lineAsserted s) := by
  have hpin : QueueHolds (s.onPins fun p => { p with tfaultLow := true }) := h
  have hstopped : QueueHolds ((s.onPins fun p => { p with tfaultLow := true }).onFaultLine fun f =>
      { f with release := none }) := h
  exact (hstopped.enterSafe.ite hstopped).ite hpin

theorem QueueHolds.lineReleased (h : QueueHolds s) : QueueHolds (lineReleased s) := by
  unfold Machine.lineReleased
  split
  · exact h
  · dsimp only
    split <;> exact h

theorem QueueHolds.releaseSettled (h : QueueHolds s) : QueueHolds (releaseSettled s) := by
  have hnormal : QueueHolds (s.onFaultLine fun f => { f with drive := .normal, release := none }) := h
  exact hnormal.markDraw.promptScan.ite h

/-! #### The link -/

theorem QueueHolds.setDegraded (h : QueueHolds s) (d : Bool) : QueueHolds (setDegraded d s) := by
  have hset : QueueHolds (s.onLink fun l => { l with degraded := d }) := h
  exact hset.markDraw.promptScan

theorem QueueHolds.endWindow (h : QueueHolds s) : QueueHolds (endWindow s) := by
  have hzero : QueueHolds (s.onLink fun l => { l with windowFrames := 0, windowBad := 0 }) := h
  exact (hzero.ite ((hzero.setDegraded true).raise _)).ite (((hzero.setDegraded false).ite hzero).ite hzero)

theorem QueueHolds.noteFrame (h : QueueHolds s) (bad : Bool) : QueueHolds (noteFrame bad s) := by
  have hcounted : ∀ {u : State}, QueueHolds u → QueueHolds (u.onLink fun l =>
      { l with windowFrames := l.windowFrames + 1, windowBad := l.windowBad + if bad then 1 else 0 }) := id
  exact (hcounted (h.endWindow.ite h)).ite h

theorem QueueHolds.makeStale (h : QueueHolds s) (n : Nat) : QueueHolds (makeStale n s) := by
  unfold Machine.makeStale
  split <;> exact h

theorem QueueHolds.removePeer (h : QueueHolds s) (n : Nat) : QueueHolds (removePeer n s) := by
  unfold Machine.removePeer
  split <;> exact h

theorem QueueHolds.enterAnnounced (h : QueueHolds s) (hs : s.link.state ≠ .offline) :
    QueueHolds (enterAnnounced s) := (h.onLink _ (by simp) (.inl hs)).noteLink

theorem QueueHolds.enterArmed (h : QueueHolds s) (hs : s.link.state ≠ .offline) : QueueHolds (enterArmed s) :=
  (h.onLink _ (by simp) (.inl hs)).noteLink

theorem QueueHolds.loseLink (h : QueueHolds s) (hs : s.link.state ≠ .offline) : QueueHolds (loseLink s) := by
  have hlisten : QueueHolds (s.onLink fun l =>
      { l with state := .listen, listenWindow := some (startTimer (cs (3 * s.settings.beat)))
               announcedTimer := none, silence := none }) := h.onLink _ (by simp) (.inl hs)
  exact (hlisten.raise .linkLost).withdraw.cutTransmit.noteLink

theorem QueueHolds.listenWindowEnds (h : QueueHolds s) : QueueHolds (listenWindowEnds s) := by
  have hended : QueueHolds (s.onLink fun l => { l with listenWindow := none }) := h
  exact hended.markDraw.ite h

theorem QueueHolds.takeOwnNumber (h : QueueHolds s) : QueueHolds (takeOwnNumber s) := by
  unfold Machine.takeOwnNumber
  split
  · exact h
  · exact h
  · exact h
  next hoff _ _ => exact h.enterDuplicate (.inl hoff)

theorem QueueHolds.takeSwitch (h : QueueHolds s) (f : Frame) : QueueHolds (takeSwitch f s) := by
  have hrecorded : ∀ {u : State} (src sw seq : Nat) (e : EdgeKind), QueueHolds u →
      QueueHolds (recordEdge src sw seq e u) := fun _ _ _ _ => id
  unfold Machine.takeSwitch
  dsimp only
  refine QueueHolds.remoteEdge ?_ _ _ _
  split
  · exact h
  · exact hrecorded _ _ _ _ (((h.count _).raise _).ite h)

end

section
variable {s : State}

/-! #### Receptions -/

theorem markDraw_link (s : State) : (markDraw s).link = s.link := (markDraw_framed s).2 .link (by simp)

theorem heard_linkState (s : State) : (heard s).link.state = s.link.state := by
  unfold heard
  split <;> rfl

theorem setDegraded_linkState (d : Bool) (s : State) : (setDegraded d s).link.state = s.link.state := by
  simp [setDegraded, promptScan, markDraw_link]

theorem endWindow_linkState (s : State) : (endWindow s).link.state = s.link.state := by
  unfold endWindow
  dsimp only
  split
  · split
    · rfl
    · exact setDegraded_linkState true _
  · split
    · split
      · exact setDegraded_linkState false _
      · rfl
    · rfl

theorem noteFrame_linkState (bad : Bool) (s : State) : (noteFrame bad s).link.state = s.link.state := by
  unfold noteFrame
  split
  · dsimp only
    split
    · exact endWindow_linkState s
    · rfl
  · rfl

theorem takeGood_linkState (s : State) : (takeGood s).link.state = s.link.state :=
  (noteFrame_linkState false _).trans (heard_linkState _)

/-- R123, R124: a good frame fails a check, or has the own number, or goes to its owner. -/
theorem destination_cases (own : Nat) (l : LinkState) (f : Frame) :
    destination own l f = .ignored ∨ destination own l f = .ownNumber ∨ destination own l f = ownerOf l f := by
  unfold destination
  split
  · exact .inl rfl
  split
  · exact .inr (.inl rfl)
  repeat' split
  all_goals simp

/-- R124: in OFFLINE no frame goes to the fire scheduler or the service unit. -/
theorem destination_offline (own : Nat) (f : Frame) :
    destination own .offline f = .ignored ∨ destination own .offline f = .ownNumber ∨
      destination own .offline f = .lamp := by
  have howner : ownerOf .offline f = .lamp ∨ ownerOf .offline f = .ignored := by
    unfold ownerOf
    split <;> simp
  rcases destination_cases own .offline f with h | h | h
  · exact .inl h
  · exact .inr (.inl h)
  · rw [h]
    exact howner.elim (fun h => .inr (.inr h)) .inl

theorem linkState_ne_offline_of_fire {own : Nat} {l : LinkState} {f : Frame} (h : destination own l f = .fire) :
    l ≠ .offline := by
  rintro rfl
  rcases destination_offline own f with h' | h' | h' <;> simp [h'] at h

theorem linkState_ne_offline_of_service {own code : Nat} {l : LinkState} {f : Frame}
    (h : destination own l f = .service code) : l ≠ .offline := by
  rintro rfl
  rcases destination_offline own f with h' | h' | h' <;> simp [h'] at h

theorem goodFrameFor_destination {d : Destination} {rx : List Byte} {s : State} {f : Frame}
    (h : goodFrameFor d rx s = some f) : destination (ownNumber s) s.link.state f = d := by
  unfold goodFrameFor at h
  split at h
  · simp at h
  · split at h
    next hd => exact Option.some.inj h ▸ hd
    next => simp at h

theorem QueueHolds.takeGood (h : QueueHolds s) : QueueHolds (takeGood s) := by
  have hreceived : QueueHolds (received s) := h
  exact (hreceived.count .good).heard.noteFrame false

/-- The owner of a good frame takes it in the link state in which the filter sent it there. -/
theorem QueueHolds.goodRow (h : QueueHolds s) {d : Destination} (rx : List Byte) {owner : Frame → State → State}
    (howner : ∀ f u, destination (ownNumber s) u.link.state f = d → QueueHolds u → QueueHolds (owner f u)) :
    QueueHolds (goodRow d rx owner s) := by
  unfold Machine.goodRow
  split
  next => exact h
  next f hf => exact howner f _ (by rw [takeGood_linkState, goodFrameFor_destination hf]) h.takeGood

theorem presentedCount_bounds {n : Nat} (hn : n ≤ 15) : 1 ≤ presentedCount n ∧ presentedCount n ≤ 15 := by
  unfold presentedCount
  split <;> omega

theorem QueueHolds.takeFire (h : QueueHolds s) (f : Frame) (hlink : s.link.state ≠ .offline) :
    QueueHolds (takeFire f s) := by
  have hfield : fieldAt f.payload 1 7 4 ≤ 15 := Nat.le_of_lt_succ (Nat.mod_lt _ (by decide))
  obtain ⟨hlo, hhi⟩ := presentedCount_bounds hfield
  unfold Machine.takeFire
  split
  · exact h
  · exact h.request _ _ _ hlink hlo hhi

theorem QueueHolds.startBit (h : QueueHolds s) : QueueHolds (startBit s) :=
  h.of_framed (startBit_framed s) (by simp)

theorem QueueHolds.endFragment (h : QueueHolds s) : QueueHolds (endFragment s) := by
  unfold Machine.endFragment
  split <;> exact h

theorem QueueHolds.badReception (h : QueueHolds s) (rx : List Byte) : QueueHolds (badReception rx s) := by
  have hreceived : QueueHolds (received s) := h
  exact ((hreceived.count .bad).noteFrame true).ite h

/-! #### Service requests -/

/-- What a request that is taken does to the state keeps the queue sound; its reply goes to the bus alone. -/
theorem QueueHolds.serviceRow (h : QueueHolds s) (code : Nat) {act : List Byte → State → State × Reply}
    (rx : List Byte) (hact : ∀ args u, u.link.state ≠ .offline → QueueHolds u → QueueHolds (act args u).1) :
    QueueHolds (serviceRow code act rx s) := by
  refine h.goodRow rx fun f u hdest hu => ?_
  have hplaced : ∀ {v : State} (r : Reply), QueueHolds v → QueueHolds (placeReply r v) := fun _ => id
  exact (hplaced _ (hact _ u (linkState_ne_offline_of_service hdest) hu)).ite (hu.count _)

/-- A request whose act only reads the state. -/
theorem QueueHolds.readRow (h : QueueHolds s) (code : Nat) {act : List Byte → State → State × Reply}
    (rx : List Byte) (hact : ∀ args u, (act args u).1 = u) : QueueHolds (Machine.serviceRow code act rx s) :=
  h.serviceRow code rx fun args u _ hu => (hact args u).symm ▸ hu

theorem argument_le {args : List Byte} {i lo hi n : Nat} (h : argument args i lo hi = some n) : n ≤ hi := by
  unfold argument at h
  split at h
  · split at h
    next hn => exact Option.some.inj h ▸ hn.2
    next => simp at h
  · simp at h

theorem QueueHolds.serveTestPulse (h : QueueHolds s) (args : List Byte) (hlink : s.link.state ≠ .offline) :
    QueueHolds (serveTestPulse args s).1 := by
  unfold Machine.serveTestPulse
  split
  next c n _ hn =>
    obtain ⟨hlo, hhi⟩ := presentedCount_bounds (argument_le hn)
    exact h.request c .pulse .service hlink hlo hhi
  next => exact h

theorem QueueHolds.serveSetLamp (h : QueueHolds s) (args : List Byte) : QueueHolds (serveSetLamp args s).1 := by
  unfold Machine.serveSetLamp
  split
  · split
    · exact h
    · split
      · exact h.of_framed (commandLamps_framed ..) (by simp)
      · exact h
  · exact h

theorem QueueHolds.serveClearFault (h : QueueHolds s) (args : List Byte) :
    QueueHolds (serveClearFault args s).1 := by
  have hclear : ∀ cs, QueueHolds (clearFaults cs s) := fun cs => by
    unfold clearFaults
    refine h.foldl _ _ fun u c hu => ?_
    have hchannel : QueueHolds (clearChannel c u) := (hu.moveChannel c _).ite hu
    exact hchannel.of_framed (onFaultLine_framed _ _) (by simp)
  unfold Machine.serveClearFault
  split
  · exact h
  · split
    · exact h
    · exact hclear _

theorem QueueHolds.unknownRequest (h : QueueHolds s) (rx : List Byte) : QueueHolds (unknownRequest rx s) := by
  unfold Machine.unknownRequest
  split
  · exact h
  · exact (h.readRow _ rx fun _ _ => rfl).ite h

/-! #### Resets and start-up -/

/-- R20, R93: right after a reset the queue is empty, and so is the reflex table. -/
theorem queueHolds_resetTo (r : Retained) (s : State) : QueueHolds (resetTo r s) := by
  refine (queueHolds_iff _).2 ⟨queueSound_empty _, ?_, fun _ => ⟨rfl, rfl⟩, fun _ => rfl, fun _ => rfl⟩
  intro slot hslot e he
  have hunused : slot ∈ (Vector.replicate 48 (none : Option ReflexEntry)).toList := hslot
  have hnone : slot = none := by simpa using hunused
  simp [hnone] at he

theorem queueHolds_resetSupplyDip (s : State) : QueueHolds (resetSupplyDip s) :=
  (queueHolds_resetTo _ s).ite (queueHolds_resetTo _ s)

theorem queueHolds_resetService (s : State) : QueueHolds (resetService s) :=
  (queueHolds_resetTo _ s).ite (queueHolds_resetTo _ s)

/-- A change of start-up alone, while the link is OFFLINE. -/
theorem QueueHolds.onStartUp (h : QueueHolds s) (f : StartUp → StartUp) (hlink : s.link.state = .offline)
    (hhold : (f s.startUp).hold ≠ none → (f s.startUp).loader = .holding) : QueueHolds (s.onStartUp f) :=
  (queueHolds_iff _).2 ⟨h.sound, h.reflexCounts, h.emptyOffline, hhold, fun _ => hlink⟩

theorem QueueHolds.holdEnd (h : QueueHolds s) (straps : BitVec 5) : QueueHolds (holdEnd straps s) := by
  unfold Machine.holdEnd
  split
  next hreached =>
    obtain ⟨hhold, hload⟩ := h.loadsOffline
    have hrunning : s.startUp.hold ≠ none := fun hnone => by simp [holdReached, hnone, timerReached] at hreached
    have hstarted := h.onStartUp (fun _ =>
      { hold := none, strapNumber := straps.toNat, loader := .reading 1, outcome := none })
      (hload (by simp [hhold hrunning])) (by simp)
    exact hstarted
  next => exact h

/-- R164: while a pass is read the link is OFFLINE, the hold is over and the queue empty. -/
theorem QueueHolds.of_reading (h : QueueHolds s) {n : Nat} (hreading : s.startUp.loader = .reading n) :
    s.link.state = .offline ∧ s.startUp.hold = none ∧ s.sched.queue = [] ∧ s.sched.announce = none := by
  obtain ⟨hhold, hload⟩ := h.loadsOffline
  have hoff := hload (by simp [hreading])
  exact ⟨hoff, by_contra fun hne => by simp [hreading] at hhold; exact hne hhold, h.emptyOffline hoff⟩

theorem QueueHolds.rejectImage (h : QueueHolds s) (o : LoadOutcome) {n : Nat}
    (hreading : s.startUp.loader = .reading n) : QueueHolds (rejectImage o s) := by
  obtain ⟨hoff, hhold, -⟩ := h.of_reading hreading
  have hloaded := h.onStartUp (fun u => { u with loader := .ended, outcome := some o }) hoff (by simp [hhold])
  have hended : QueueHolds ((s.onStartUp fun u => { u with loader := .ended, outcome := some o }).onRetained fun r =>
      { r with leftOffline := true }) := hloaded
  have hheld := hended.onLink (fun l => { l with state := .held, duplicateSeen := false }) (by simp) (.inr rfl)
  exact hheld.endAllChannels.flushQueue.noteLink

/-- R93, Table 6-2: a pulse action in use asks for 1–15 pulses. -/
theorem reflexActionOf_pulse {coils : Vector CoilSettings 16} {code target n m : Nat} {c : CoilNo}
    (h : reflexActionOf coils code target n = some (.pulse c m)) : 1 ≤ m ∧ m ≤ 15 := by
  unfold reflexActionOf at h
  split at h
  · split at h
    next hn =>
      obtain ⟨d, -, hd⟩ := Option.map_eq_some_iff.1 h
      obtain ⟨-, rfl⟩ := ReflexAction.pulse.inj hd
      exact hn
    next => simp at h
  all_goals simp at h

/-- R93: a reflex record in use asks for 1–15 pulses. -/
theorem reflexRecord_counts {img : List Byte} {coils : Vector CoilSettings 16} {k : Nat} {e : ReflexEntry}
    (h : reflexRecord img coils k = some e) : e.countHolds = true := by
  unfold reflexRecord at h
  dsimp only at h
  split at h
  · split at h
    next a _ _ ha =>
      obtain rfl := Option.some.inj h
      unfold ReflexEntry.countHolds
      split
      next c m hm => simpa using reflexActionOf_pulse (ha.trans (congrArg some hm))
      next => rfl
    next => simp at h
  · simp at h

theorem QueueHolds.takeSettings (h : QueueHolds s) (img : List Byte) {n : Nat}
    (hreading : s.startUp.loader = .reading n) : QueueHolds (takeSettings img s) := by
  obtain ⟨-, hhold, hqueue, hannounce⟩ := h.of_reading hreading
  have hsound : QueueSound (settingsOf img).coils s.sched.queue s.sched.announce := by
    rw [hqueue, hannounce]
    exact queueSound_empty _
  have hreflex : ReflexCountsHold (reflexTableOf img (settingsOf img).coils) := by
    intro slot hslot e he
    obtain ⟨k, hk, rfl⟩ := Vector.mem_iff_getElem.1 (Vector.mem_toList_iff.1 hslot)
    exact reflexRecord_counts (img := img) (k := k) (by simpa [reflexTableOf] using he)
  exact (queueHolds_iff _).2 ⟨hsound, hreflex, fun _ => ⟨hqueue, hannounce⟩, fun hne => absurd hhold hne,
    fun hne => absurd rfl hne⟩

theorem startLamps_framed (s : State) : Framed [.lamps] s (startLamps s) := by
  refine (onLamps_framed _ s).trans (Framed.foldl _ _ _ fun u n => ?_)
  unfold initialLamp
  split <;> exact lampCommand_framed n _ u

theorem QueueHolds.leaveOffline (h : QueueHolds s) (hended : s.startUp.loader = .ended) :
    QueueHolds (leaveOffline s) := by
  have hcleared : QueueHolds (s.onLink fun l => { l with duplicateSeen := false }) := h
  have hlisten : QueueHolds (enterListen (s.onLink fun l => { l with duplicateSeen := false })) :=
    (hcleared.onLink _ (by simp) (.inr hended)).noteLink
  exact (hcleared.enterDuplicate (.inr hended)).ite hlisten

theorem QueueHolds.acceptImage (h : QueueHolds s) (img : List Byte) {n : Nat}
    (hreading : s.startUp.loader = .reading n) : QueueHolds (acceptImage img s) := by
  have hlamps := startLamps_framed (Machine.takeSettings img s)
  have hsame : (startLamps (Machine.takeSettings img s)).startUp = (Machine.takeSettings img s).startUp :=
    hlamps.2 .startUp (by simp)
  have hended : (startLamps (Machine.takeSettings img s)).startUp.loader = .ended := by rw [hsame]; rfl
  have hstarted : QueueHolds (startLamps (Machine.takeSettings img s)) :=
    (h.takeSettings img hreading).of_framed hlamps (by simp)
  unfold Machine.acceptImage
  exact (hstarted.leaveOffline hended).judgeRail

theorem QueueHolds.readError (h : QueueHolds s) : QueueHolds (readError s) := by
  unfold Machine.readError
  split
  next n hreading =>
    obtain ⟨hoff, hhold, -⟩ := h.of_reading hreading
    exact (h.onStartUp _ hoff (by simp [hhold])).ite (h.rejectImage _ hreading)
  next => exact h

theorem QueueHolds.retryRead (h : QueueHolds s) : QueueHolds (retryRead s) := by
  unfold Machine.retryRead
  split
  next n t hwaiting =>
    obtain ⟨hhold, hload⟩ := h.loadsOffline
    refine QueueHolds.ite (h.onStartUp _ (hload (by simp [hwaiting])) fun hne => ?_) h
    simp [hhold hne] at hwaiting
  next => exact h

theorem QueueHolds.passEnd (h : QueueHolds s) (img : List Byte) : QueueHolds (passEnd img s) := by
  unfold Machine.passEnd
  split
  next n hreading =>
    refine QueueHolds.ite ?_ h
    split
    · exact h.acceptImage img hreading
    · exact h.rejectImage _ hreading
  next => exact h

/-! #### Sending -/

theorem QueueHolds.startSeries (h : QueueHolds s) : QueueHolds (startSeries s) := by
  unfold Machine.startSeries
  split <;> exact h

theorem QueueHolds.sampled (h : QueueHolds s) (d : ReplyData) : QueueHolds (sampled d s) := by
  unfold Machine.sampled
  split
  · exact h
  · split <;> exact h
  · exact h

theorem QueueHolds.beginSeriesAttempt (h : QueueHolds s) : QueueHolds (beginSeriesAttempt s) := by
  have hdraw : QueueHolds (attemptDraw s) := h.retest
  have hreply : ∀ r, QueueHolds (attemptReply r s) := fun r => QueueHolds.sampled (s := beginAttempt _ s) h r.data
  unfold Machine.beginSeriesAttempt
  split
  · split
    · exact hdraw
    · exact h
    · exact hreply _
    · exact h
  · exact h

theorem QueueHolds.drawCompleted (h : QueueHolds s) (n : Nat) : QueueHolds (drawCompleted n s) :=
  h.startAnnounced.ite_else markDraw

theorem QueueHolds.linkDrawCompleted (h : QueueHolds s) : QueueHolds (linkDrawCompleted s) := by
  unfold Machine.linkDrawCompleted
  split
  · exact h
  · split
    next hlisten => exact h.enterAnnounced (by simp [hlisten.1])
    next => exact h

theorem QueueHolds.completeReply (h : QueueHolds s) (f : Frame) : QueueHolds (completeReply f s) := by
  have hcompleted : ∀ {u : State} (r : Reply), QueueHolds u → QueueHolds (replyCompleted f r u) := by
    intro u r hu
    have hreported : QueueHolds (eventsReported (BitVec.ofNat 16 (pairAt f.payload 2)) u) := hu
    exact QueueHolds.ite (queueHolds_resetService _) (hreported.ite hu)
  unfold Machine.completeReply
  dsimp only
  split
  · exact hcompleted _ h
  · exact h

theorem QueueHolds.attemptSucceeds (h : QueueHolds s) : QueueHolds (attemptSucceeds s) := by
  have hended : QueueHolds (Machine.heard (endSeries s)) := QueueHolds.heard (s := endSeries s) h
  have hbeat : ∀ {u : State}, QueueHolds u → QueueHolds (startBeat u) := id
  have hswitch : ∀ {u : State} (cut : Bool), QueueHolds u → QueueHolds (completeSwitch cut u) := fun _ hu =>
    QueueHolds.ite hu hu
  unfold Machine.attemptSucceeds
  split
  · dsimp only
    split
    · exact hbeat (hended.drawCompleted _).linkDrawCompleted
    · exact hswitch _ hended
    · exact hended.completeReply _
  · exact h

theorem QueueHolds.attemptFails (h : QueueHolds s) : QueueHolds (attemptFails s) := by
  have hended : QueueHolds (endSeries s) := h
  have habandonDraw : ∀ {u : State}, QueueHolds u → QueueHolds (abandonDraw u) := by
    intro u hu
    unfold abandonDraw
    dsimp only
    split <;> exact hu.markDraw.withdraw
  have habandon : ∀ r, QueueHolds (abandon r s) := by
    intro r
    have hcounted := (hended.count .abandoned).raise .txAbandon
    unfold abandon
    dsimp only
    split
    · exact habandonDraw hcounted
    · exact hcounted
    · exact hcounted
  unfold Machine.attemptFails
  split
  · exact h
  · exact hended.ite ((habandon _).ite h)

theorem QueueHolds.beatExpired (h : QueueHolds s) : QueueHolds (beatExpired s) := by
  have hstopped : QueueHolds (s.onBus fun b => { b with beatTimer := none }) := h
  exact hstopped.markDraw.ite h

/-! #### Time -/

theorem Loader.elapse_eq_ended {l : Loader} : l.elapse = .ended ↔ l = .ended := by
  cases l <;> simp [Loader.elapse]

theorem QueueHolds.elapse (h : QueueHolds s) : QueueHolds (elapse s) := by
  obtain ⟨hhold, hload⟩ := h.loadsOffline
  refine (queueHolds_iff _).2 ⟨h.sound.elapse s.coils, h.reflexCounts, fun hoff => ?_, fun hne => ?_, fun hne => ?_⟩
  · simp [Machine.elapse, h.emptyOffline hoff]
  · have hrunning : s.startUp.hold ≠ none := fun hnone => hne (by simp [Machine.elapse, hnone, advanceTimer])
    simp [Machine.elapse, hhold hrunning, Loader.elapse]
  · exact hload fun hended => hne (Loader.elapse_eq_ended.2 hended)

end

/-! #### Every row, and every step -/

/-- One row of the table: it answers a next state, whose fire queue is sound. -/
theorem QueueHolds.exec {s : State} (h : QueueHolds s) (i : Instr) : Yields (exec i s) QueueHolds := by
  cases i
  case powerOn => exact ⟨_, rfl, queueHolds_resetTo _ s⟩
  case supplyDip => exact ⟨_, rfl, queueHolds_resetSupplyDip s⟩
  case powerUpHoldEnd straps => exact ⟨_, rfl, h.holdEnd straps⟩
  case configReadError => exact ⟨_, rfl, h.readError⟩
  case configRetryWaitExpiry => exact ⟨_, rfl, h.retryRead⟩
  case configPassEnd image => exact ⟨_, rfl, h.passEnd image⟩
  case stationClockTick => exact ⟨_, rfl, QueueHolds.ite h h⟩
  case switchInputChange sw high => exact ⟨_, rfl, h.switchInput sw high⟩
  case switchAdoption sw => exact ⟨_, rfl, QueueHolds.ite h h⟩
  case switchEdge sw => exact ⟨_, rfl, (h.takeEdge sw).ite h⟩
  case scan => exact ⟨_, rfl, h.scan⟩
  case announceTimerExpiry => exact ⟨_, rfl, h.withdraw.ite h⟩
  case waitLimitExpiry c => exact ⟨_, rfl, (((h.removeEntry c).count _).raise _).ite h⟩
  case kickTimerExpiry c => exact ⟨_, rfl, (h.kickEnds c).ite h⟩
  case holdLimitExpiry c => exact ⟨_, rfl, (h.holdEnds c).ite h⟩
  case restTimerExpiry c => exact ⟨_, rfl, (h.restEnds c).ite h⟩
  case kickOpenCheck c => exact ⟨_, rfl, (h.enterFault c .opened).ite h⟩
  case senseReadingChange c r => exact ⟨_, rfl, h.senseChanges c r⟩
  case offCurrentTimerExpiry c => exact ⟨_, rfl, (h.offCurrent c).ite h⟩
  case thermalIntervalExpiry => exact ⟨_, rfl, h.thermalInterval⟩
  case lampHalfExpiry n => exact ⟨_, rfl, h.lampHalf n⟩
  case lampPhaseExpiry => exact ⟨_, rfl, QueueHolds.ite h h⟩
  case warmUpExpiry n => exact ⟨_, rfl, QueueHolds.ite h h⟩
  case railReadingChange v => exact ⟨_, rfl, h.railReading v.toNat⟩
  case settleTimerExpiry => exact ⟨_, rfl, (h.changeRail .up).ite h⟩
  case sagQualifyExpiry => exact ⟨_, rfl, (h.changeRail .sag).ite h⟩
  case sagClearExpiry => exact ⟨_, rfl, (h.changeRail .up).ite h⟩
  case faultLineAsserted => exact ⟨_, rfl, h.lineAsserted⟩
  case faultLineReleased => exact ⟨_, rfl, h.lineReleased⟩
  case releaseSettleExpiry => exact ⟨_, rfl, h.releaseSettled⟩
  case badFrame rx => exact ⟨_, rfl, h.badReception rx⟩
  case fragment => exact ⟨_, rfl, h.endFragment⟩
  case filteredFrame rx => exact ⟨_, rfl, h.goodRow rx fun _ _ _ hu => hu.count _⟩
  case ownNumberFrame rx => exact ⟨_, rfl, h.goodRow rx fun _ _ _ hu => hu.takeOwnNumber⟩
  case drawFrame rx => exact ⟨_, rfl, h.goodRow rx fun _ _ _ hu => QueueHolds.ite hu hu⟩
  case switchFrame rx => exact ⟨_, rfl, h.goodRow rx fun f _ _ hu => hu.takeSwitch f⟩
  case fireFrame rx =>
    exact ⟨_, rfl, h.goodRow rx fun f _ hdest hu => hu.takeFire f (linkState_ne_offline_of_fire hdest)⟩
  case lampFrame rx => exact ⟨_, rfl, h.goodRow rx fun f _ _ hu => hu.takeLampFrame f.payload⟩
  case status rx => exact ⟨_, rfl, h.readRow 1 rx fun _ _ => rfl⟩
  case readEvents rx => exact ⟨_, rfl, h.readRow 2 rx fun _ _ => rfl⟩
  case readCounters rx => exact ⟨_, rfl, h.readRow 3 rx fun _ _ => by unfold serveReadCounters; split <;> rfl⟩
  case readPeer rx => exact ⟨_, rfl, h.readRow 4 rx fun _ _ => by unfold serveReadPeer; split <;> rfl⟩
  case readCoil rx => exact ⟨_, rfl, h.readRow 5 rx fun _ _ => by unfold serveReadCoil; split <;> rfl⟩
  case readSwitch rx => exact ⟨_, rfl, h.readRow 6 rx fun _ _ => by unfold serveReadSwitch; split <;> rfl⟩
  case testPulse rx => exact ⟨_, rfl, h.serviceRow 7 rx fun args _ hlink hu => hu.serveTestPulse args hlink⟩
  case setLamp rx => exact ⟨_, rfl, h.serviceRow 8 rx fun args _ _ hu => hu.serveSetLamp args⟩
  case clearFault rx => exact ⟨_, rfl, h.serviceRow 9 rx fun args _ _ hu => hu.serveClearFault args⟩
  case restart rx => exact ⟨_, rfl, h.readRow 10 rx fun _ _ => rfl⟩
  case svcUnknownRequest rx => exact ⟨_, rfl, h.unknownRequest rx⟩
  case txSeriesStart => exact ⟨_, rfl, h.startSeries⟩
  case txWaitExpiry => exact ⟨_, rfl, h.endFragment.beginSeriesAttempt.ite h⟩
  case txAttemptSuccess => exact ⟨_, rfl, h.attemptSucceeds.ite h⟩
  case txAttemptFailure => exact ⟨_, rfl, h.attemptFails.ite h⟩
  case txAbandon => exact ⟨_, rfl, h.attemptFails.ite h⟩
  case beatTimerExpiry => exact ⟨_, rfl, h.beatExpired⟩
  case listenWindowExpiry => exact ⟨_, rfl, h.listenWindowEnds⟩
  case announcedTimerExpiry =>
    refine ⟨_, rfl, ?_⟩
    split
    next hdue => exact h.enterArmed fun hoff => by simp [announcedDue, hoff] at hdue
    next => exact h
  case linkLost =>
    refine ⟨_, rfl, ?_⟩
    split
    next hdue => exact h.loseLink fun hoff => by simp [linkLossDue, hoff] at hdue
    next => exact h
  case peerStaleExpiry n => exact ⟨_, rfl, h.makeStale n⟩
  case peerRemovalExpiry n => exact ⟨_, rfl, h.removePeer n⟩
  case qualityWindowEnd => exact ⟨_, rfl, h.endWindow.ite h⟩
  case validityMarkLost => exact ⟨_, rfl, h⟩
  case startBitOnLine => exact ⟨_, rfl, h.startBit⟩

/-- A step is one row, with its command gone from the queue of commands, or one quantum of time. -/
theorem step_cases (s : State) : (∃ i q, step s = exec i (s.withPending q)) ∨ step s = .next (elapse s) := by
  unfold step
  split
  next i rest _ => exact .inl ⟨i, rest, rfl⟩
  next hnil =>
    unfold idleStep
    split
    next i _ => exact .inl ⟨i, [], by rw [← hnil]; rfl⟩
    next => exact .inr rfl

/-- Settles O11: what holds of the queue at one state holds after every row and after a quantum of time. -/
theorem fireQueueStaysSound : Obligations.FireQueueStaysSound := by
  intro s t h hstep
  rcases step_cases s with ⟨i, q, hi⟩ | htime
  · have hs : QueueHolds (s.withPending q) := h
    obtain ⟨u, hu, hsound⟩ := hs.exec i
    obtain rfl : u = t := by simpa [hi, hu] using hstep
    exact hsound
  · obtain rfl : elapse s = t := by simpa [htime] using hstep
    exact h.elapse

/-! ### How each request is answered, and the two limits of the queue -/

theorem countedOnly_count (k : Counter) (s : State) : CountedOnly k.index s (count k s) := rfl

/-- Settles O31, check by check: those that refuse, and then LOCKOUT. -/
theorem requestChecks : Obligations.RequestChecks := by
  intro s c a n o
  have hrefused : (linkRefuses s.link.state = true ∨ actionSuits s.settings.coils[c].cls a = false ∨
      s.coils[c].state = .fault) →
      (request c a n o s).2 = .refused ∧ CountedOnly 14 s (request c a n o s).1 := fun h => by
    rw [request_of_refused s c a n o h]
    exact ⟨rfl, countedOnly_count .refused s⟩
  refine ⟨fun hlink => hrefused (.inl (linkRefuses_eq_true.2 hlink)), fun h => hrefused (.inr ?_), ?_⟩
  · rcases h with hcls | ⟨hcls, ha⟩ | ⟨hcls, ha⟩ | hfault
    · exact .inl (by rw [hcls]; rfl)
    · exact .inl (by rw [hcls, ha]; rfl)
    · rw [hcls]
      cases a
      case pulse => exact absurd rfl ha
      case engage | release => exact .inl rfl
    · exact .inr hfault
  · intro hheld hdup hstate hsuits
    have hlink : linkRefuses s.link.state = false := by simp [linkRefuses, hheld, hdup]
    have hsuits' : actionSuits s.settings.coils[c].cls a = true := by
      rw [actionSuits_eq_true]
      cases a <;> simpa using hsuits
    rw [request_of_lockedOut s c a n o hlink hsuits' hstate]
    exact ⟨rfl, countedOnly_count .lockedOut s⟩

section
variable (s : State) (c : CoilNo) (n : Nat) (o : Origin)

/-- R4, R6, R17: a creation puts the new entry of R4 in its place. -/
theorem created_createEntry (k : EntryKind) : Created (newEntry s c k n o) s (createEntry c k n o s) := by
  unfold Created
  rw [← insertEntry_eq (fun x => s.settings.coils[x].priority)]
  rfl

theorem refusedFull_count_raise : RefusedFull s (raise .queueFull (count .queueFull s)) := rfl

theorem pulseRequest_of_entry (h : ∃ e ∈ s.sched.queue, e.coil = c) : pulseRequest c n o s =
    (count .merged (s.onSched fun q =>
      { q with queue := mapEntry c (fun e => { e with pulses := min (e.pulses + n) 15 }) q.queue }), .merged) := by
  obtain ⟨e, he⟩ := Option.isSome_iff_exists.1 (entryOf_isSome.2 h)
  simp only [pulseRequest, he]

theorem pulseRequest_of_none (h : ∀ e ∈ s.sched.queue, e.coil ≠ c) : pulseRequest c n o s =
    if s.sched.queue.length < 12 then (createEntry c .pulses n o s, .accepted)
    else (raise .queueFull (count .queueFull s), .queueFull) := by
  simp only [pulseRequest, entryOf_eq_none.2 h]

/-- R8: a channel in KICK or HOLD is engaged already, and an entry will engage it. -/
theorem engageRequest_of_merged
    (h : s.coils[c].state = .kick ∨ s.coils[c].state = .hold ∨ ∃ e ∈ s.sched.queue, e.coil = c) :
    engageRequest c o s = (count .merged s, .merged) := by
  unfold engageRequest
  rw [← or_assoc] at h
  split
  · rfl
  next hidle => rw [if_pos (entryOf_isSome.2 (h.resolve_left hidle))]

theorem engageRequest_of_none (hstate : s.coils[c].state = .idle ∨ s.coils[c].state = .rest)
    (h : ∀ e ∈ s.sched.queue, e.coil ≠ c) : engageRequest c o s =
    if s.sched.queue.length < 12 then (createEntry c .engage 1 o s, .accepted)
    else (raise .queueFull (count .queueFull s), .queueFull) := by
  have hoff : ¬(s.coils[c].state = .kick ∨ s.coils[c].state = .hold) := by
    rcases hstate with hst | hst <;> rw [hst] <;> decide
  unfold engageRequest
  rw [if_neg hoff, entryOf_eq_none.2 h]
  rfl

end

/-- Settles O32, by what the queue holds: an entry of the coil, room for one, or neither. -/
theorem pulseRequestAnswered : Obligations.PulseRequestAnswered := by
  intro s c n o hpass
  rw [request_of_passes s c .pulse n o hpass]
  refine ⟨fun hentry => ?_, fun hnone hlen => ?_, fun hnone hlen => ?_⟩
  · rw [pulseRequest_of_entry s c n o hentry]
    exact ⟨rfl, rfl⟩
  · rw [pulseRequest_of_none s c n o hnone, if_pos hlen]
    exact ⟨rfl, created_createEntry s c n o .pulses⟩
  · rw [pulseRequest_of_none s c n o hnone, if_neg (Nat.not_lt.2 hlen)]
    exact ⟨rfl, refusedFull_count_raise s⟩

section
variable (s : State) (c : CoilNo)

/-- R38, R39: the coil's removal changes the reported draw exactly where its announce, with a draw, stood. -/
theorem reportedDraw_withoutEntry : decide (reportedDraw (s.onSched (withoutEntry c)) ≠ reportedDraw s) =
    announced c s.sched := by
  cases ha : s.sched.announce with
  | none => simp [reportedDraw, withoutEntry, announced, ha]
  | some a => by_cases hc : a.coil = c <;> simp [reportedDraw, withoutEntry, announced, ha, hc]

/-- R13 to R15, R17, R38: a removal, whole. -/
theorem removeEntry_eq : removeEntry c s =
    { s with sched := withoutEntry c s.sched, bus := markedIf (announced c s.sched) s } := by
  have hdropped : promptScan (s.onSched fun q =>
      { q with queue := dropEntry c q.queue, announce := announceWithout c q.announce }) =
      s.onSched (withoutEntry c) := by
    simp only [announceWithout_eq]
    rfl
  rw [removeEntry, hdropped, noteDraw_eq, reportedDraw_withoutEntry]
  rfl

/-- R37, R39: a withdrawal, whole. -/
theorem withdraw_eq {a : Announce} (ha : s.sched.announce = some a) : withdraw s =
    { s with
      sched := { s.sched with
        announce := none, scanDue := true
        queue := mapEntry a.coil (fun e => { e with phase := .queued }) s.sched.queue }
      bus := markedIf (decide (a.draw ≠ 0)) s } := by
  have hdraw : decide (reportedDraw (promptScan (s.onSched fun q =>
      { q with queue := mapEntry a.coil (fun e => { e with phase := .queued }) q.queue, announce := none })) ≠
      reportedDraw s) = decide (a.draw ≠ 0) := by
    simp [reportedDraw, promptScan, ha]
  simp only [withdraw, ha]
  rw [noteDraw_eq, hdraw]
  rfl

end

/-- Settles O37, by the equations of a withdrawal and of a removal. -/
theorem announceAndWaitLimits : Obligations.AnnounceAndWaitLimits := by
  intro s a c e
  refine ⟨fun ha hdue => ⟨announceExpired s, rfl, ?_⟩, fun he hdue => ⟨waitExpired c s, rfl, ?_⟩⟩
  · have hreached : announceDue s = true := by simpa [announceDue, ha, Countup.reached] using hdue
    rw [announceExpired, if_pos hreached, withdraw_eq s ha]
    rfl
  · have hreached : waitDue c s = true := by simpa [waitDue, he, Countup.reached] using hdue
    rw [waitExpired, if_pos hreached, removeEntry_eq]
    rfl

/-! ### The end of a hold by RELEASE -/

section
variable (s : State) (c : CoilNo)

theorem moveChannel_queue (new : CoilChannel) : (moveChannel c new s).sched.queue = s.sched.queue := by
  rw [moveChannel, noteDraw_eq]
  exact (moveRaw_queue c new s).1

theorem moveChannel_coil (new : CoilChannel) : (moveChannel c new s).coils[c] =
    { new with offTimer := offTimerAfter s.coils[c] new s.pins.sense[c] } := by
  rw [moveChannel_coils]
  simp

theorem moveChannel_other (new : CoilChannel) {d : CoilNo} (hd : d ≠ c) :
    (moveChannel c new s).coils[d] = s.coils[d] := by
  rw [moveChannel_coils]
  simp [Fin.val_ne_of_ne hd.symm]

theorem moveChannel_settings (new : CoilChannel) : (moveChannel c new s).settings = s.settings :=
  (moveChannel_framed c new s).2 .settings (by simp)

/-- R23: a channel that is not commanded on adds nothing to D_own. -/
theorem drawOf_of_off {cfg : CoilSettings} {ch : CoilChannel} (h : commandedOn ch.state = false) :
    drawOf cfg ch = 0 := by
  unfold drawOf
  split
  · rfl
  next hkick _ => simp [commandedOn, hkick] at h
  next hhold _ => simp [commandedOn, hhold] at h
  · rfl

theorem drawOf_of_latch_hold {cfg : CoilSettings} {ch : CoilChannel} (hcls : cfg.cls = .latch)
    (hhold : ch.state = .hold) : drawOf cfg ch = (cfg.draw * cfg.duty + 15) / 16 := by
  simp [drawOf, hcls, hhold, holdDraw]

/-- R23: what a channel that goes off takes from D_own. -/
theorem moveChannel_committed_of_off (new : CoilChannel) (h : commandedOn new.state = false) :
    (moveChannel c new s).sched.committed = s.sched.committed - drawOf s.settings.coils[c] s.coils[c] := by
  rw [moveChannel_committed, drawOf_of_off h, Nat.add_zero]

/-- R47, R49: a rest of a coil that is no FLIPPER ends in IDLE. -/
theorem restEnds_of_not_flipper (hcls : s.settings.coils[c].cls ≠ .flipper) :
    restEnds c s = moveChannel c (s.coils[c].stopped .idle) s :=
  if_neg fun h => hcls h.1

/-- R9, R49: the entry to REST of a coil that is no FLIPPER, with the rest that ends at once if its time is 0. -/
theorem enterRest_of_not_flipper (hcls : s.settings.coils[c].cls ≠ .flipper) :
    (enterRest c s).coils[c].state = (if s.settings.coils[c].restTime = 0 then .idle else .rest) ∧
    (enterRest c s).coils[c].duty = none ∧
    (enterRest c s).sched.committed = s.sched.committed - drawOf s.settings.coils[c] s.coils[c] ∧
    (enterRest c s).sched.queue = s.sched.queue ∧
    ∀ d : CoilNo, d ≠ c → (enterRest c s).coils[d] = s.coils[d] := by
  unfold enterRest
  dsimp only
  generalize hm : moveChannel c (s.coils[c].rested s.settings.coils[c].restTime) s = m
  have hsettings : m.settings = s.settings := hm ▸ moveChannel_settings s c _
  have hcoil : m.coils[c].state = .rest ∧ m.coils[c].duty = none := by
    rw [← hm, moveChannel_coil]
    exact ⟨rfl, rfl⟩
  have hcommitted : m.sched.committed = s.sched.committed - drawOf s.settings.coils[c] s.coils[c] :=
    hm ▸ moveChannel_committed_of_off s c _ rfl
  have hqueue : m.sched.queue = s.sched.queue := hm ▸ moveChannel_queue s c _
  have hother : ∀ d : CoilNo, d ≠ c → m.coils[d] = s.coils[d] := fun d hd => hm ▸ moveChannel_other s c _ hd
  rw [hsettings]
  split
  · rw [restEnds_of_not_flipper m c (by rwa [hsettings]), moveChannel_coil, moveChannel_committed_of_off m c _ rfl,
      moveChannel_queue, drawOf_of_off (by rw [hcoil.1]; rfl)]
    exact ⟨rfl, rfl, hcommitted, hqueue, fun d hd => (moveChannel_other m c _ hd).trans (hother d hd)⟩
  · exact ⟨hcoil.1, hcoil.2, hcommitted, hqueue, hother⟩

/-! ### RELEASE requests -/

theorem releaseRequest_of_entry (h : ∃ e ∈ s.sched.queue, e.coil = c) :
    releaseRequest c s = (removeEntry c s, .cancelled) := if_pos (entryOf_isSome.2 h)

theorem releaseRequest_of_none (h : ∀ e ∈ s.sched.queue, e.coil ≠ c) : releaseRequest c s =
    if s.coils[c].state = .hold then (enterRest c s, .accepted) else (s, .accepted) := by
  unfold releaseRequest
  rw [entryOf_eq_none.2 h]
  rfl

end

/-- An ENGAGE request passes the checks of a LATCH channel, and a RELEASE request then does too. -/
theorem passesChecks_engage {s : State} {c : CoilNo} (h : PassesChecks c .engage s) :
    s.settings.coils[c].cls = .latch ∧ PassesChecks c .release s := by
  obtain ⟨hheld, hdup, ⟨-, ha⟩ | ⟨hcls, -⟩, hfault, hlockout⟩ := h
  · exact absurd ha (by decide)
  · exact ⟨hcls, hheld, hdup, .inr ⟨hcls, .inr rfl⟩, hfault, hlockout⟩

/-- Settles O33, by the channel's state and what the queue holds; a RELEASE in HOLD is the entry to REST. -/
theorem engageAndReleaseAnswered : Obligations.EngageAndReleaseAnswered := by
  intro s c n o hengage
  obtain ⟨hcls, hrelease⟩ := passesChecks_engage hengage
  rw [request_of_passes s c .engage n o hengage, request_of_passes s c .release n o hrelease]
  refine ⟨fun h => ?_, fun hstate hnone => ⟨fun hlen => ?_, fun hlen => ?_⟩, fun hentry => ?_, fun hnone hstate => ?_,
    fun hnone hstate => ?_⟩
  · rw [engageRequest_of_merged s c o h]
    exact ⟨rfl, countedOnly_count .merged s⟩
  · rw [engageRequest_of_none s c o hstate hnone, if_pos hlen]
    exact ⟨rfl, created_createEntry s c 1 o .engage⟩
  · rw [engageRequest_of_none s c o hstate hnone, if_neg (Nat.not_lt.2 hlen)]
    exact ⟨rfl, refusedFull_count_raise s⟩
  · rw [releaseRequest_of_entry s c hentry]
    exact ⟨rfl, removeEntry_eq s c⟩
  · rw [releaseRequest_of_none s c hnone, if_neg hstate]
    exact ⟨rfl, rfl⟩
  · rw [releaseRequest_of_none s c hnone, if_pos hstate]
    obtain ⟨hst, hduty, hcommitted, hqueue, hother⟩ := enterRest_of_not_flipper s c (by rw [hcls]; decide)
    rw [drawOf_of_latch_hold hcls hstate] at hcommitted
    exact ⟨rfl, hst, hduty, hcommitted, hqueue, hother, enterRest_framed c s⟩

end Sys2Proof.Machine
end

section
/-! Admission: the tests of a scan (R25 to R28), and what a scan does with its candidate (R30, R31, R33, R34). -/

namespace Sys2Proof.Machine

/-! ### The tests of a scan -/

theorem eligible_iff (s : State) (c : CoilNo) : eligible s c = true ↔
    s.link.state = .armed ∧ s.rail.state = .up ∧ s.faultLine.drive = .normal ∧ s.coils[c].state = .idle ∧
      s.retained.heat[c] < s.settings.coils[c].trip := by
  simp [eligible, and_assoc]

theorem fits_iff (s : State) (base d : Nat) : fits s base d = true ↔
    base + s.settings.reserve + peerSum s + s.settings.headroom + d ≤ s.settings.capacity ∧
      base + s.settings.reserve + d ≤ s.settings.ceiling := by
  simp [fits]

theorem withinAllowance_iff (s : State) (base d : Nat) : withinAllowance s base d = true ↔
    base + d ≤ if s.link.degraded then 0 else s.settings.allowance := decide_eq_true_iff

theorem peerDraw_eq (degraded : Bool) (p : Peer) : peerDraw degraded p =
    if degraded = true ∨ p.stale = true then p.ceiling else p.draw + p.reserve := by
  simp [peerDraw, or_comm]

theorem peerSum_eq (s : State) : peerSum s = (s.link.peers.map fun p =>
    if s.link.degraded = true ∨ p.stale = true then p.ceiling else p.draw + p.reserve).sum := by
  simp only [peerSum, funext (peerDraw_eq s.link.degraded)]

theorem candidate_eligible {s : State} {e : Entry} (h : candidate s = some e) : eligible s e.coil = true :=
  List.find?_some (p := fun x : Entry => eligible s x.coil) h

/-- Settles O36, test by test. -/
theorem fitTests : Obligations.FitTests := fun s base d =>
  ⟨fits_iff s base d, withinAllowance_iff s base d, peerSum_eq s, eligible_iff s⟩

/-! ### The draw of the channels -/

theorem drawOf_congr {cfg : CoilSettings} {a b : CoilChannel} (h : a.state = b.state) :
    drawOf cfg a = drawOf cfg b := by
  simp only [drawOf, h]

theorem drawOf_of_flipper {cfg : CoilSettings} (h : cfg.cls = .flipper) (ch : CoilChannel) : drawOf cfg ch = 0 := by
  simp only [drawOf, h]

theorem drawOf_of_kick {cfg : CoilSettings} {ch : CoilChannel} (hcls : cfg.cls ≠ .flipper) (h : ch.state = .kick) :
    drawOf cfg ch = cfg.draw := by
  cases hc : cfg.cls with
  | flipper => exact absurd hc hcls
  | pulse | latch => simp only [drawOf, hc, h]

theorem drawOf_kick_le {cfg : CoilSettings} {ch : CoilChannel} (h : ch.state = .kick) : drawOf cfg ch ≤ cfg.draw := by
  by_cases hcls : cfg.cls = .flipper
  · simp [drawOf_of_flipper hcls]
  · exact (drawOf_of_kick hcls h).le

/-! ### What a scan does with its candidate -/

/-- R34: the coil's entry is ANNOUNCING, with its record of draw `d`. -/
def withAnnounce (c : CoilNo) (d : Nat) (q : Scheduler) : Scheduler :=
  { q with queue := mapEntry c (fun e => { e with phase := .announcing }) q.queue
           announce := some { coil := c, draw := d, timer := startTimer announceLimit, carried := false } }

theorem enterAnnouncing_eq_noteDraw (c : CoilNo) (s : State) :
    enterAnnouncing c s = noteDraw s (s.onSched (withAnnounce c s.settings.coils[c].draw)) := rfl

/-- R29: the state with the prompts for a scan answered. -/
def promptsAnswered (s : State) : State := s.onSched fun q => { q with scanDue := false }

section
variable {s : State} {c : CoilNo}

theorem scannedOnly_promptsAnswered (s : State) : ScannedOnly s (promptsAnswered s) := rfl

theorem scan_of_due (h : s.sched.scanDue = true) : scan s = scanQueue (promptsAnswered s) := if_pos h

/-- R30: a scan without a candidate. -/
theorem scan_of_none (hdue : s.sched.scanDue = true) (h : ∀ e ∈ s.sched.queue, eligible s e.coil = false) :
    scan s = promptsAnswered s := by
  have hcand : candidate (promptsAnswered s) = none :=
    List.find?_eq_none.2 fun e he => ne_true_of_eq_false (h e he)
  simp only [scan_of_due hdue, scanQueue, hcand]

/-- R31: a candidate, and no entry ANNOUNCING. -/
theorem scan_of_alone (hdue : s.sched.scanDue = true) {e : Entry} (hcand : candidate s = some e)
    (hnone : s.sched.announce = none) : scan s =
    if fits s s.sched.committed s.settings.coils[e.coil].draw then
      if withinAllowance s s.sched.committed s.settings.coils[e.coil].draw then startKick e.coil (promptsAnswered s)
      else enterAnnouncing e.coil (promptsAnswered s)
    else promptsAnswered s := by
  have hcand' : candidate (promptsAnswered s) = some e := hcand
  have hnone' : (promptsAnswered s).sched.announce = none := hnone
  simp only [scan_of_due hdue, scanQueue, hcand', hnone']
  rfl

/-- R33: a candidate, and an entry ANNOUNCING. -/
theorem scan_of_announce (hdue : s.sched.scanDue = true) {e : Entry} {a : Announce} (hcand : candidate s = some e)
    (ha : s.sched.announce = some a) : scan s =
    if e.coil = a.coil then promptsAnswered s
    else if fits s (s.sched.committed + a.draw) s.settings.coils[e.coil].draw &&
      withinAllowance s (s.sched.committed + a.draw) s.settings.coils[e.coil].draw then
      startKick e.coil (promptsAnswered s)
    else promptsAnswered s := by
  have hcand' : candidate (promptsAnswered s) = some e := hcand
  have ha' : (promptsAnswered s).sched.announce = some a := ha
  simp only [scan_of_due hdue, scanQueue, hcand', ha']
  rfl

/-- R34, R39: an announce, whole; its draw changes the reported draw. -/
theorem enterAnnouncing_eq (hnone : s.sched.announce = none) (hdraw : 1 ≤ s.settings.coils[c].draw) :
    enterAnnouncing c s = { s with
      sched := withAnnounce c s.settings.coils[c].draw s.sched
      bus := markedIf true s } := by
  have hreported : decide (reportedDraw (s.onSched (withAnnounce c s.settings.coils[c].draw)) ≠ reportedDraw s) =
      true := by
    simp only [reportedDraw, hnone, State.onSched_sched, withAnnounce, decide_eq_true_eq]
    omega
  have hcommitted : decide ((s.onSched (withAnnounce c s.settings.coils[c].draw)).sched.committed ≠
      s.sched.committed) = false := decide_eq_false (not_not_intro rfl)
  rw [enterAnnouncing_eq_noteDraw, noteDraw_eq, hreported, hcommitted, Bool.or_false]
  rfl

/-- R10, R32: a kick of a coil that is no FLIPPER adds its draw to D_own. -/
theorem startKickRaw_sched (hidle : s.coils[c].state = .idle) (hcls : s.settings.coils[c].cls ≠ .flipper) :
    (startKickRaw c s).sched = { s.sched with
      committed := s.sched.committed + s.settings.coils[c].draw
      queue := pulseTaken c s.sched.queue } := by
  have hkick : drawOf s.settings.coils[c] (s.coils[c].kicked s.settings.coils[c].kickTime) =
      s.settings.coils[c].draw := drawOf_of_kick hcls rfl
  have hoff : drawOf s.settings.coils[c] s.coils[c] = 0 := drawOf_of_off (by rw [hidle]; rfl)
  rw [← hkick, ← Nat.sub_zero (_ + _), ← hoff]
  rfl

/-- R32, R47, R63: the channel at a kick from the queue. -/
theorem startKickRaw_coils : (startKickRaw c s).coils = s.coils.set c { s.coils[c] with
    state := .kick, kickTimer := some (startTimer (ms s.settings.coils[c].kickTime)), currentSeen := false
    holdTimer := none, duty := none, restTimer := none, offTimer := none, pwmPhase := 0, driven := 0 } :=
  moveRaw_coils c _ _

/-- R39: the kick's draw changes the reported draw, whatever is announced. -/
theorem reportedDraw_startKickRaw (hidle : s.coils[c].state = .idle) (hcls : s.settings.coils[c].cls ≠ .flipper) :
    reportedDraw (startKickRaw c s) = reportedDraw s + s.settings.coils[c].draw := by
  simp only [reportedDraw, startKickRaw_sched hidle hcls]
  split
  · rfl
  · exact Nat.add_right_comm ..

/-- R23, R39: the change of D_own at a kick owes a scan and marks the draw slot. -/
theorem startKick_eq (hidle : s.coils[c].state = .idle) (hcls : s.settings.coils[c].cls ≠ .flipper)
    (hdraw : 1 ≤ s.settings.coils[c].draw) : startKick c s = { startKickRaw c s with
      sched := { s.sched with
        committed := s.sched.committed + s.settings.coils[c].draw
        queue := pulseTaken c s.sched.queue
        scanDue := true }
      bus := markedIf true (startKickRaw c s) } := by
  have hreported : decide (reportedDraw (startKickRaw c s) ≠ reportedDraw s) = true := by
    rw [reportedDraw_startKickRaw hidle hcls, decide_eq_true_eq]
    omega
  have hcommitted : decide (s.sched.committed + s.settings.coils[c].draw ≠ s.sched.committed) = true := by
    rw [decide_eq_true_eq]
    omega
  rw [startKick, noteDraw_eq, hreported, startKickRaw_sched hidle hcls, hcommitted, Bool.or_true]

/-- R32: a kick started on the allowance path, whole. -/
theorem kickStarted_startKick (hidle : s.coils[c].state = .idle) (hcls : s.settings.coils[c].cls ≠ .flipper)
    (hdraw : 1 ≤ s.settings.coils[c].draw) : KickStarted c s (startKick c s) := by
  have heq := startKick_eq hidle hcls hdraw
  exact ⟨(congrArg State.coils heq).trans startKickRaw_coils, congrArg State.sched heq, congrArg State.service heq,
    congrArg State.bus heq, (startKick_framed c s).mono (by simp)⟩

/-- The prompt that a scan answers is no part of what its kick does. -/
theorem kickStarted_of_promptsAnswered {t : State} (h : KickStarted c (promptsAnswered s) t) : KickStarted c s t := by
  obtain ⟨hcoils, hsched, hservice, hbus, hframe⟩ := h
  exact ⟨hcoils, hsched, hservice, hbus, ((onSched_framed _ s).mono (by simp)).trans hframe⟩

end

/-- Settles O35, by the announce that stands as the scan begins: none, the candidate's own, or another's. -/
theorem scanActsOnCandidate : Obligations.ScanActsOnCandidate := by
  intro s e hdue
  refine ⟨scan s, rfl, fun hnone => ?_, fun hfind hcls hdraw => ?_⟩
  · rw [scan_of_none hdue hnone]
    exact scannedOnly_promptsAnswered s
  obtain ⟨-, -, -, hidle, -⟩ := (eligible_iff s e.coil).1 (candidate_eligible hfind)
  have hkick : KickStarted e.coil s (startKick e.coil (promptsAnswered s)) :=
    kickStarted_of_promptsAnswered (kickStarted_startKick hidle hcls hdraw)
  refine ⟨fun hnone => ?_, fun a ha => ?_⟩
  · rw [scan_of_alone hdue hfind hnone]
    refine ⟨fun hfits => ?_, fun hfits => ⟨fun hwithin => ?_, fun hwithin => ?_⟩⟩
    · rw [if_neg (ne_true_of_eq_false hfits)]
      exact scannedOnly_promptsAnswered s
    · rw [if_pos hfits, if_pos hwithin]
      exact hkick
    · rw [if_pos hfits, if_neg (ne_true_of_eq_false hwithin)]
      exact enterAnnouncing_eq (s := promptsAnswered s) hnone hdraw
  · rw [scan_of_announce hdue hfind ha]
    refine ⟨fun hown => ?_, fun hother => ?_⟩
    · rw [if_pos hown.symm]
      exact scannedOnly_promptsAnswered s
    · rw [if_neg (Ne.symm hother), ← Bool.and_eq_true]
      refine ⟨fun hboth => ?_, fun hnot => ?_⟩
      · rw [if_pos hboth]
        exact hkick
      · rw [if_neg hnot]
        exact scannedOnly_promptsAnswered s

end Sys2Proof.Machine
end

section
/-! R24: every step keeps D_own + R_own within min(M_own, C − H).  This rests on three things: what each operation does
to the sum over the channels (`drawSum`), that a kick starts only with room for its draw, and that an announce stands
only in ARMED with the rail UP, so that none stands where the settings are taken. -/

namespace Sys2Proof.Machine

/-! ### The sum over the channels -/

/-- R23: a hold draws no more than the kick before it. -/
theorem holdDraw_le {cfg : CoilSettings} (h : cfg.duty ≤ 16) : holdDraw cfg ≤ cfg.draw := by
  have hmul : cfg.draw * cfg.duty ≤ cfg.draw * 16 := Nat.mul_le_mul_left _ h
  unfold holdDraw
  omega

/-- R23: the sum over the channels depends on their classes, draws and states alone. -/
theorem drawSum_congr {s t : State} (hset : t.settings.coils = s.settings.coils)
    (hstate : ∀ c : CoilNo, t.coils[c].state = s.coils[c].state) : drawSum t = drawSum s := by
  simp only [drawSum, hset, drawOf_congr (hstate _)]

theorem drawSum_of_idle {s : State} (h : ∀ c : CoilNo, s.coils[c].state = .idle) : drawSum s = 0 := by
  refine List.sum_eq_zero fun d hd => ?_
  obtain ⟨c, -, rfl⟩ := List.mem_map.1 hd
  exact drawOf_of_off (by rw [h c]; rfl)

/-- R23: a change of one channel changes its own term of the sum. -/
theorem drawSum_of_set {s t : State} {c : CoilNo} {new : CoilChannel} (hset : t.settings.coils = s.settings.coils)
    (hcoils : t.coils = s.coils.set c new) :
    drawSum t + drawOf s.settings.coils[c] s.coils[c] = drawSum s + drawOf s.settings.coils[c] new := by
  have hsum : ∀ u : State, drawSum u = ∑ d : CoilNo, drawOf u.settings.coils[d] u.coils[d] := fun u =>
    (Fin.sum_univ_def _).symm
  have hself : t.coils[c] = new := by simp [hcoils]
  have hothers : ∑ d ∈ Finset.univ.erase c, drawOf t.settings.coils[d] t.coils[d] =
      ∑ d ∈ Finset.univ.erase c, drawOf s.settings.coils[d] s.coils[d] :=
    Finset.sum_congr rfl fun d hd => by simp [hset, hcoils, Fin.val_ne_of_ne (Finset.ne_of_mem_erase hd).symm]
  rw [hsum, hsum, ← Finset.add_sum_erase _ _ (Finset.mem_univ c), ← Finset.add_sum_erase _ _ (Finset.mem_univ c),
    hothers, hself, hset]
  omega

theorem drawOf_le_drawSum (s : State) (c : CoilNo) : drawOf s.settings.coils[c] s.coils[c] ≤ drawSum s :=
  List.single_le_sum (by simp) _ (List.mem_map_of_mem (List.mem_finRange c))

/-! ### The budget, and an announce that may no longer stand

R37 withdraws an announce after the change of link or rail that ends it, so within such a change `AnnounceStands` fails
for a moment.  `stands` says whether it is claimed; the rest of R24's bound is claimed always. -/

/-- `WithinBudget`, with the condition on the announce claimed only where `stands`. -/
abbrev BudgetHolds (stands : Prop) (s : State) : Prop :=
  DrawMatches s ∧ (stands → AnnounceStands s) ∧ (∀ c : CoilNo, s.settings.coils[c].duty ≤ 16) ∧
  s.settings.ceiling ≤ 255 ∧ s.sched.committed + s.settings.reserve + carriedDraw s ≤ budget s

theorem withinBudget_iff (s : State) : WithinBudget s ↔ BudgetHolds True s := by
  simp only [WithinBudget, BudgetHolds, true_implies]

theorem carriedDraw_of_none {s : State} (h : s.sched.announce = none) : carriedDraw s = 0 := by
  simp only [carriedDraw, h]

theorem carriedDraw_le {s : State} {a : Announce} (h : s.sched.announce = some a) : carriedDraw s ≤ a.draw := by
  simp only [carriedDraw, h]
  split <;> simp

theorem carriedDraw_of_carried {s : State} {a : Announce} (h : s.sched.announce = some a) (hc : a.carried = true) :
    carriedDraw s = a.draw := by
  simp only [carriedDraw, h, hc, if_true]

theorem carriedDraw_congr {s t : State} (h : t.sched.announce = s.sched.announce) : carriedDraw t = carriedDraw s := by
  simp only [carriedDraw, h]

theorem announceStands_of_none {s : State} (h : s.sched.announce = none) : AnnounceStands s := by
  simp [AnnounceStands, h]

section
variable {s t : State} {p q : Prop}

theorem BudgetHolds.drawMatches (h : BudgetHolds p s) : DrawMatches s := h.1

theorem BudgetHolds.stands (h : BudgetHolds p s) (hp : p) : AnnounceStands s := h.2.1 hp

theorem BudgetHolds.duties (h : BudgetHolds p s) : ∀ c : CoilNo, s.settings.coils[c].duty ≤ 16 := h.2.2.1

theorem BudgetHolds.ceiling_le (h : BudgetHolds p s) : s.settings.ceiling ≤ 255 := h.2.2.2.1

theorem BudgetHolds.within (h : BudgetHolds p s) :
    s.sched.committed + s.settings.reserve + carriedDraw s ≤ budget s := h.2.2.2.2

theorem BudgetHolds.committed_eq (h : BudgetHolds p s) : s.sched.committed = drawSum s := h.drawMatches.1

theorem BudgetHolds.idle (h : BudgetHolds p s) (hu : Unconfigured s) (c : CoilNo) : s.coils[c].state = .idle :=
  h.drawMatches.2.1 hu c

theorem BudgetHolds.loads (h : BudgetHolds p s) : LoadsOffline s := h.drawMatches.2.2

/-- R66: a channel that is not IDLE shows that a configuration is in force. -/
theorem BudgetHolds.configured (h : BudgetHolds p s) {c : CoilNo} {st : CoilState} (hc : s.coils[c].state = st)
    (hst : st ≠ .idle) : ¬Unconfigured s := fun hu => hst (hc.symm.trans (h.idle hu c))

/-- What is claimed of the announce may change with what is known of it. -/
theorem BudgetHolds.restand (h : BudgetHolds p s) (hq : q → AnnounceStands s) : BudgetHolds q s :=
  ⟨h.1, hq, h.2.2⟩

theorem BudgetHolds.of_none (h : BudgetHolds p s) (hnone : s.sched.announce = none) : BudgetHolds q s :=
  h.restand fun _ => announceStands_of_none hnone

theorem announce_none_of_link (h : AnnounceStands s) (hlink : s.link.state ≠ .armed) : s.sched.announce = none :=
  Option.eq_none_iff_forall_not_mem.2 fun a ha => hlink (h a ha).1

theorem announce_none_of_rail (h : AnnounceStands s) (hrail : s.rail.state ≠ .up) : s.sched.announce = none :=
  Option.eq_none_iff_forall_not_mem.2 fun a ha => hrail (h a ha).2.1

/-! ### The shared operations keep the budget

An operation that changes none of the fields `BudgetHolds` reads keeps it by that alone: `h` itself proves it of the
changed state. -/

/-- An operation that leaves alone every block `BudgetHolds` reads. -/
theorem BudgetHolds.of_framed {l : List Block} (h : BudgetHolds p s) (hf : Framed l s t)
    (hl : ∀ b ∈ [Block.settings, .sched, .coils, .link, .rail, .startUp], b ∉ l) : BudgetHolds p t := by
  have hset : t.settings = s.settings := hf.2 .settings (hl _ (by simp))
  have hsched : t.sched = s.sched := hf.2 .sched (hl _ (by simp))
  have hcoils : t.coils = s.coils := hf.2 .coils (hl _ (by simp))
  have hlink : t.link = s.link := hf.2 .link (hl _ (by simp))
  have hrail : t.rail = s.rail := hf.2 .rail (hl _ (by simp))
  have hstart : t.startUp = s.startUp := hf.2 .startUp (hl _ (by simp))
  simpa only [BudgetHolds, DrawMatches, drawSum, AnnounceStands, carriedDraw, budget, Unconfigured, LoadsOffline,
    hset, hsched, hcoils, hlink, hrail, hstart] using h

theorem BudgetHolds.ite {c : Prop} [Decidable c] (ht : BudgetHolds p s) (he : BudgetHolds p t) :
    BudgetHolds p (if c then s else t) := by split <;> assumption

theorem BudgetHolds.ite_then {c : Prop} [Decidable c] {f : State → State} (h : BudgetHolds p s)
    (hf : BudgetHolds p s → BudgetHolds p (f s)) : BudgetHolds p (if c then f s else s) := (hf h).ite h

theorem BudgetHolds.ite_else {c : Prop} [Decidable c] {f : State → State} (h : BudgetHolds p s)
    (hf : BudgetHolds p s → BudgetHolds p (f s)) : BudgetHolds p (if c then s else f s) := h.ite (hf h)

theorem BudgetHolds.foldl {α : Type} (h : BudgetHolds p s) (f : State → α → State) (xs : List α)
    (hf : ∀ s a, BudgetHolds p s → BudgetHolds p (f s a)) : BudgetHolds p (xs.foldl f s) :=
  List.foldlRecOn xs f h fun s hs a _ => hf s a hs

theorem BudgetHolds.promptScan (h : BudgetHolds p s) : BudgetHolds p (promptScan s) := h

theorem BudgetHolds.raise (h : BudgetHolds p s) (e : StickyEvent) : BudgetHolds p (raise e s) := h

theorem BudgetHolds.count (h : BudgetHolds p s) (c : Counter) : BudgetHolds p (count c s) := h

theorem BudgetHolds.markDraw (h : BudgetHolds p s) : BudgetHolds p (markDraw s) :=
  h.of_framed (markDraw_framed s) (by simp)

theorem BudgetHolds.noteDraw (h : BudgetHolds p t) : BudgetHolds p (noteDraw s t) := by rw [noteDraw_eq]; exact h

theorem BudgetHolds.noteLink (h : BudgetHolds p s) : BudgetHolds p (noteLink s) := h.markDraw.promptScan

theorem BudgetHolds.heard (h : BudgetHolds p s) : BudgetHolds p (heard s) := by
  unfold Machine.heard; split <;> exact h

/-! #### The queue and the announce -/

/-- The end of an announce gives back the draw that its completion might have added. -/
theorem BudgetHolds.announceGone (h : BudgetHolds p s) (f : Scheduler → Scheduler)
    (hcommitted : (f s.sched).committed = s.sched.committed) (hnone : (f s.sched).announce = none) :
    BudgetHolds q (s.onSched f) := by
  obtain ⟨⟨hsum, hidle, hloads⟩, -, hduty, hceil, hwithin⟩ := h
  refine ⟨⟨hcommitted.trans hsum, hidle, hloads⟩, fun _ => announceStands_of_none hnone, hduty, hceil, ?_⟩
  have hbudget : budget (s.onSched f) = budget s := rfl
  rw [carriedDraw_of_none hnone, State.onSched_sched, State.onSched_settings, hcommitted, hbudget]
  omega

theorem BudgetHolds.removeEntry (h : BudgetHolds p s) (c : CoilNo) : BudgetHolds p (removeEntry c s) := by
  have hdropped : BudgetHolds p (s.onSched fun q =>
      { q with queue := dropEntry c q.queue, announce := announceWithout c q.announce }) := by
    by_cases ha : s.sched.announce.map Announce.coil = some c
    · exact h.announceGone _ rfl (by rw [announceWithout_eq, if_pos ha])
    · simp only [announceWithout_eq, State.onSched, if_neg ha]
      exact h
  exact hdropped.promptScan.noteDraw

theorem BudgetHolds.removeCounted (h : BudgetHolds p s) (n : Counter) (c : CoilNo) :
    BudgetHolds p (removeCounted n c s) := by
  unfold Machine.removeCounted
  exact ((h.removeEntry c).count n).ite h

theorem BudgetHolds.flushQueue (h : BudgetHolds p s) : BudgetHolds q (flushQueue s) :=
  (h.announceGone _ rfl rfl).promptScan.noteDraw

theorem BudgetHolds.withdraw (h : BudgetHolds p s) : BudgetHolds q (withdraw s) := by
  unfold Machine.withdraw
  split
  next hnone => exact h.of_none hnone
  next => exact (h.announceGone _ rfl rfl).promptScan.noteDraw

/-! #### The channels -/

/-- A change of the channels' records that keeps each channel's state. -/
theorem BudgetHolds.onCoils (h : BudgetHolds p s) (f : Vector CoilChannel 16 → Vector CoilChannel 16)
    (hf : ∀ c : CoilNo, (f s.coils)[c].state = s.coils[c].state) : BudgetHolds p (s.onCoils f) := by
  obtain ⟨⟨hsum, hidle, hloads⟩, hrest⟩ := h
  have hsame : drawSum (s.onCoils f) = drawSum s := drawSum_congr rfl hf
  exact ⟨⟨hsum.trans hsame.symm, fun hu c => (hf c).trans (hidle hu c), hloads⟩, hrest⟩

theorem set_state {v : Vector CoilChannel 16} {c : CoilNo} {new : CoilChannel} (h : new.state = v[c].state)
    (d : CoilNo) : (v.set c new)[d].state = v[d].state := by
  by_cases hd : d = c
  · subst hd
    simpa using h
  · simp [Fin.val_ne_of_ne (Ne.symm hd)]

/-- A change of one channel's record that keeps its state. -/
theorem BudgetHolds.setCoil (h : BudgetHolds p s) (c : CoilNo) {new : CoilChannel}
    (hnew : new.state = s.coils[c].state) : BudgetHolds p (s.onCoils fun v => v.set c new) :=
  h.onCoils _ (set_state hnew)

/-- R23, R24: a change of one channel, where what it adds to D_own has room. -/
theorem BudgetHolds.moveRaw (h : BudgetHolds p s) (c : CoilNo) (new : CoilChannel)
    (hidle : new.state = .idle ∨ ¬Unconfigured s)
    (hroom : s.sched.committed + drawOf s.settings.coils[c] new + s.settings.reserve + carriedDraw s ≤
      budget s + drawOf s.settings.coils[c] s.coils[c]) : BudgetHolds p (moveRaw c new s) := by
  have hframe := moveRaw_framed c new s
  have hset : (Machine.moveRaw c new s).settings = s.settings := hframe.2 .settings (by simp)
  have hlink : (Machine.moveRaw c new s).link = s.link := hframe.2 .link (by simp)
  have hrail : (Machine.moveRaw c new s).rail = s.rail := hframe.2 .rail (by simp)
  have hstart : (Machine.moveRaw c new s).startUp = s.startUp := hframe.2 .startUp (by simp)
  have hannounce := (moveRaw_queue c new s).2
  have hcoils := moveRaw_coils c new s
  have hcommitted := moveRaw_committed c new s
  have hdraw : drawOf s.settings.coils[c] { new with offTimer := offTimerAfter s.coils[c] new s.pins.sense[c] } =
      drawOf s.settings.coils[c] new := drawOf_congr rfl
  have hsum := drawSum_of_set (by rw [hset]) hcoils
  rw [hdraw] at hsum
  have hexact := h.committed_eq
  have hterm := drawOf_le_drawSum s c
  have hloads : LoadsOffline (Machine.moveRaw c new s) := by simpa only [LoadsOffline, hlink, hstart] using h.loads
  refine ⟨⟨by omega, fun hu d => ?_, hloads⟩, fun hp => ?_, ?_, ?_, ?_⟩
  · rw [Unconfigured, hlink] at hu
    have hnew : new.state = .idle := hidle.resolve_right (not_not_intro hu)
    rw [hcoils, set_state (by rw [h.idle hu c]; exact hnew), h.idle hu d]
  · simpa only [AnnounceStands, hannounce, hlink, hrail, hset] using h.stands hp
  · rw [hset]; exact h.duties
  · rw [hset]; exact h.ceiling_le
  · rw [carriedDraw_congr hannounce, budget, hset, ← budget]
    omega

theorem BudgetHolds.moveChannel (h : BudgetHolds p s) (c : CoilNo) (new : CoilChannel)
    (hidle : new.state = .idle ∨ ¬Unconfigured s)
    (hle : drawOf s.settings.coils[c] new ≤ drawOf s.settings.coils[c] s.coils[c]) :
    BudgetHolds p (moveChannel c new s) := by
  have hwithin := h.within
  exact (h.moveRaw c new hidle (by omega)).noteDraw

/-- R23: a channel that goes off adds nothing to D_own. -/
theorem BudgetHolds.moveOff (h : BudgetHolds p s) (c : CoilNo) {new : CoilChannel}
    (hidle : new.state = .idle ∨ ¬Unconfigured s) (hoff : commandedOn new.state = false) :
    BudgetHolds p (Machine.moveChannel c new s) :=
  h.moveChannel c new hidle ((drawOf_of_off hoff).trans_le (Nat.zero_le _))

/-- R46: a return to IDLE. -/
theorem BudgetHolds.moveIdle (h : BudgetHolds p s) (c : CoilNo) {new : CoilChannel} (hidle : new.state = .idle) :
    BudgetHolds p (Machine.moveChannel c new s) := h.moveOff c (.inl hidle) (by rw [hidle]; rfl)

theorem configured_of_pressAllowed (h : pressAllowed s = true) : ¬Unconfigured s := by
  rintro (hu | hu) <;> simp [pressAllowed, hu] at h

/-- R22: a FLIPPER's kick is drawn from the reserve. -/
theorem BudgetHolds.flipperKick (h : BudgetHolds p s) (c : CoilNo) (hcls : s.settings.coils[c].cls = .flipper)
    (hpress : pressAllowed s = true) : BudgetHolds p (flipperKick c s) :=
  h.moveChannel c _ (.inr (configured_of_pressAllowed hpress)) ((drawOf_of_flipper hcls _).trans_le (Nat.zero_le _))

theorem BudgetHolds.restEnds (h : BudgetHolds p s) (c : CoilNo) : BudgetHolds p (restEnds c s) := by
  unfold Machine.restEnds
  dsimp only
  split
  next hflip =>
    obtain ⟨hcls, -, -, hpress⟩ := hflip
    exact h.flipperKick c hcls hpress
  next => exact h.moveIdle c rfl

theorem BudgetHolds.enterRest (h : BudgetHolds p s) (c : CoilNo) (hconf : ¬Unconfigured s) :
    BudgetHolds p (enterRest c s) := by
  have hrested : BudgetHolds p (Machine.moveChannel c (s.coils[c].rested s.settings.coils[c].restTime) s) :=
    h.moveOff c (.inr hconf) rfl
  exact hrested.ite_then fun hr => hr.restEnds c

theorem BudgetHolds.rechooseDuty (h : BudgetHolds p s) (c : CoilNo) : BudgetHolds p (rechooseDuty c s) := by
  unfold Machine.rechooseDuty
  split
  · exact h.setCoil c rfl
  · exact h

theorem BudgetHolds.rechooseAll (h : BudgetHolds p s) : BudgetHolds p (rechooseAll s) := by
  unfold Machine.rechooseAll
  exact h.foldl _ _ fun _ c hs => hs.rechooseDuty c

theorem BudgetHolds.reportFault (h : BudgetHolds p s) (c : CoilNo) (k : FaultKind) :
    BudgetHolds p (reportFault c k s) :=
  ((h.raise _).of_framed (latchKind_framed c k _) (by simp)).removeCounted _ c

theorem BudgetHolds.enterFault (h : BudgetHolds p s) (c : CoilNo) (k : FaultKind) (hconf : ¬Unconfigured s) :
    BudgetHolds p (enterFault c k s) :=
  (h.moveOff c (.inr hconf) rfl).reportFault c k

theorem BudgetHolds.endChannel (h : BudgetHolds p s) (c : CoilNo) : BudgetHolds p (endChannel c s) := by
  unfold Machine.endChannel
  exact (h.moveIdle c rfl).ite h

theorem BudgetHolds.endAllChannels (h : BudgetHolds p s) : BudgetHolds p (endAllChannels s) := by
  unfold Machine.endAllChannels
  exact h.foldl _ _ fun _ c hs => hs.endChannel c

theorem BudgetHolds.endQueuedChannels (h : BudgetHolds p s) : BudgetHolds p (endQueuedChannels s) := by
  unfold Machine.endQueuedChannels
  exact h.foldl _ _ fun _ c hs => hs.ite_else fun hs => hs.endChannel c

/-- R32, R24: a kick starts from the queue where its draw has room beside what an announce may still add. -/
theorem BudgetHolds.startKickRaw (h : BudgetHolds p s) (c : CoilNo) (hconf : ¬Unconfigured s)
    (hroom : s.sched.committed + s.settings.coils[c].draw + s.settings.reserve + carriedDraw s ≤ budget s) :
    BudgetHolds p (startKickRaw c s) := by
  have hused : BudgetHolds p (Machine.count .delivered (s.onSched fun q =>
      { q with queue := useEntry c q.queue })) := h
  have hkick : drawOf s.settings.coils[c] (s.coils[c].kicked s.settings.coils[c].kickTime) ≤
      s.settings.coils[c].draw := drawOf_kick_le rfl
  refine hused.moveRaw c _ (.inr hconf) (le_trans ?_ (Nat.le_add_right _ _))
  exact (Nat.add_le_add_right (Nat.add_le_add_right (Nat.add_le_add_left hkick _) _) _).trans hroom

theorem configured_of_eligible {c : CoilNo} (h : eligible s c = true) : ¬Unconfigured s := by
  have harmed := ((eligible_iff s c).1 h).1
  rintro (hu | hu) <;> simp [hu] at harmed

/-- R27: where a kick fits beside D_own and what is announced, its draw has room. -/
theorem room_of_fits {base d : Nat} (h : fits s base d = true) : base + d + s.settings.reserve ≤ budget s := by
  obtain ⟨hrail, hceil⟩ := (fits_iff s base d).1 h
  unfold budget
  omega

/-- R31, R33: a kick that fits beside D_own and an announced draw `d` that covers what may still be added. -/
theorem BudgetHolds.startKick (h : BudgetHolds p s) (c : CoilNo) (hel : eligible s c = true) {d : Nat}
    (hd : carriedDraw s ≤ d) (hfits : fits s (s.sched.committed + d) s.settings.coils[c].draw = true) :
    BudgetHolds p (startKick c s) := by
  have hroom := room_of_fits hfits
  exact (h.startKickRaw c (configured_of_eligible hel) (by omega)).noteDraw

/-! #### Changes of the rail, the drive and the link -/

theorem BudgetHolds.railReport (h : BudgetHolds p s) (old new : RailState) :
    BudgetHolds p (railReport old new s) := by
  unfold Machine.railReport
  split <;> exact h

theorem BudgetHolds.onRail (h : BudgetHolds p s) (f : RailMonitor → RailMonitor)
    (hq : q → AnnounceStands (s.onRail f)) : BudgetHolds q (s.onRail f) := ⟨h.1, hq, h.2.2⟩

/-- The change of rail state at which R37 withdraws an announce. -/
abbrev RailLeavesUp (old new : RailState) : Prop := (isUp old && !isUp new) = true

/-- R37: a rail that leaves UP takes the announce with it; in any other change no announce stands, or UP stays. -/
theorem BudgetHolds.changeRail (h : BudgetHolds True s) (new : RailState) : BudgetHolds True (changeRail new s) := by
  have hrail : BudgetHolds (¬RailLeavesUp s.rail.state new)
      (s.onRail fun _ => railEntry new s.pins.rail s.settings.vOn s.settings.vSag) := by
    refine h.onRail _ fun hstays => ?_
    by_cases hup : s.rail.state = .up
    · have hnew : new = .up := by simpa [RailLeavesUp, isUp, hup] using hstays
      exact fun a ha => (h.stands trivial a ha).imp_right fun ⟨_, hdraw⟩ => ⟨hnew, hdraw⟩
    · exact announceStands_of_none (s := s.onRail _) (announce_none_of_rail (s := s) (h.stands trivial) hup)
  have hwithdrawn : ∀ {u : State}, BudgetHolds (¬RailLeavesUp s.rail.state new) u →
      BudgetHolds True (if RailLeavesUp s.rail.state new then Machine.withdraw u else u) := fun {u} hu => by
    split
    next => exact hu.withdraw
    next hstays => exact hu.restand fun _ => hu.stands hstays
  exact ((((hwithdrawn (hrail.railReport s.rail.state new)).ite_then endAllChannels).ite_else
    rechooseAll).ite_else markDraw).promptScan

theorem BudgetHolds.cutTransmit (h : BudgetHolds p s) : BudgetHolds p (cutTransmit s) := h

theorem BudgetHolds.enterSafe (h : BudgetHolds p s) : BudgetHolds p (enterSafe s) := by
  have hsafe : BudgetHolds p (s.onFaultLine fun f => { f with drive := .safe }) := h
  have hflushed : BudgetHolds p (Machine.flushQueue (Machine.endAllChannels (Machine.raise .safeEntered
      (s.onFaultLine fun f => { f with drive := .safe })))) := (hsafe.raise _).endAllChannels.flushQueue
  exact hflushed.markDraw.promptScan

/-- A change of link state, to one in which a configuration is in force or from one in which none is; the link stays
out of OFFLINE, or leaves it once the load has ended. -/
theorem BudgetHolds.onLink (h : BudgetHolds p s) (f : LinkUnit → LinkUnit)
    (hconf : ¬Unconfigured (s.onLink f) ∨ Unconfigured s) (hs : s.link.state ≠ .offline ∨ s.startUp.loader = .ended)
    (hq : q → AnnounceStands (s.onLink f)) : BudgetHolds q (s.onLink f) := by
  obtain ⟨⟨hsum, hidle, hhold, hload⟩, -, hrest⟩ := h
  refine ⟨⟨hsum, fun hu => hidle (hconf.resolve_left (not_not_intro hu)), hhold, fun hne => ?_⟩, hq, hrest⟩
  exact absurd (hload hne) (hs.resolve_right hne)

/-- A change of link state in which no announce stands: R34 lets one stand in ARMED alone. -/
theorem BudgetHolds.relink (h : BudgetHolds True s) (f : LinkUnit → LinkUnit)
    (hconf : ¬Unconfigured (s.onLink f) ∨ Unconfigured s) (hs : s.link.state ≠ .offline ∨ s.startUp.loader = .ended)
    (hlink : s.link.state ≠ .armed) : BudgetHolds q (s.onLink f) :=
  have hnone : s.sched.announce = none := announce_none_of_link (h.stands trivial) hlink
  h.onLink f hconf hs fun _ => announceStands_of_none (s := s.onLink f) hnone

theorem BudgetHolds.enterDuplicate (h : BudgetHolds p s)
    (hs : s.link.state ≠ .offline ∨ s.startUp.loader = .ended) : BudgetHolds q (enterDuplicate s) := by
  have hlink : BudgetHolds False (s.onLink fun l =>
      { l with state := .duplicate, listenWindow := none, announcedTimer := none, silence := none }) :=
    h.onLink _ (.inl (by simp)) hs False.elim
  have hmark : ∀ {u : State}, BudgetHolds False u → BudgetHolds False (u.onFaultLine fun f =>
      { f with duplicate := f.duplicate || u.settings.causeMask.duplicate }) := id
  have hflushed := (hmark (hlink.raise .duplicate)).flushQueue (q := q)
  exact hflushed.endQueuedChannels.cutTransmit.noteLink

/-! #### Coil requests and the reflex walk -/

theorem BudgetHolds.pulseRequest (h : BudgetHolds p s) (c : CoilNo) (n : Nat) (o : Origin) :
    BudgetHolds p (pulseRequest c n o s).1 := by
  unfold Machine.pulseRequest
  split
  · exact h
  · split <;> exact h

theorem BudgetHolds.engageRequest (h : BudgetHolds p s) (c : CoilNo) (o : Origin) :
    BudgetHolds p (engageRequest c o s).1 := by
  unfold Machine.engageRequest
  split
  · exact h
  split
  · exact h
  split <;> exact h

theorem BudgetHolds.releaseRequest (h : BudgetHolds p s) (c : CoilNo) : BudgetHolds p (releaseRequest c s).1 := by
  unfold Machine.releaseRequest
  split
  · exact h.removeEntry c
  split
  next hhold => exact h.enterRest c (h.configured hhold (by decide))
  next => exact h

theorem BudgetHolds.request (h : BudgetHolds p s) (c : CoilNo) (a : CoilAction) (n : Nat) (o : Origin) :
    BudgetHolds p (request c a n o s).1 := by
  rcases request_passes_or_counted s c a n o with hpass | ⟨k, hk⟩
  · rw [request_of_passes s c a n o hpass]
    cases a
    case pulse => exact h.pulseRequest c n o
    case engage => exact h.engageRequest c o
    case release => exact h.releaseRequest c
  · rw [hk]
    exact h.count k

theorem walk_framed (src sw : Nat) (k : EdgeKind) (s : State) : Framed [.lamps] s (walk src sw k s).1 := by
  unfold walk
  refine List.foldlRecOn (motive := fun w : State × List CoilRequest => Framed [.lamps] s w.1) _ _
    (Framed.refl _ s) fun w hw slot _ => ?_
  unfold walkEntry
  split
  · exact hw
  · split
    · exact hw.trans (applyAction_framed _ w)
    · exact hw

theorem BudgetHolds.walkAnswered (h : BudgetHolds p s) (src sw : Nat) (k : EdgeKind) (o : Origin) :
    BudgetHolds p (answerList o (walk src sw k s).2 (walk src sw k s).1) := by
  unfold answerList
  exact (h.of_framed (walk_framed src sw k s) (by simp)).foldl _ _ fun _ r hu => hu.request r.coil r.action r.pulses o

theorem BudgetHolds.localEdge (h : BudgetHolds p s) (src : Nat) (sw : SwitchNo) (k : EdgeKind) :
    BudgetHolds p (localEdge src sw k s) := (h.walkAnswered src sw.val k .localSwitch).ite h

theorem BudgetHolds.remoteEdge (h : BudgetHolds p s) (src sw : Nat) (k : EdgeKind) :
    BudgetHolds p (remoteEdge src sw k s) := (h.walkAnswered src sw k .remoteSwitch).ite h

/-! ### The rows of the table keep the budget -/

/-! #### The scan and the announce -/

/-- R34: an announce begins in ARMED with the rail UP, and adds nothing yet. -/
theorem BudgetHolds.enterAnnouncing (h : BudgetHolds p s) (c : CoilNo) (hel : eligible s c = true) :
    BudgetHolds p (enterAnnouncing c s) := by
  obtain ⟨harmed, hup, -⟩ := (eligible_iff s c).1 hel
  obtain ⟨hdraws, -, hduty, hceil, hwithin⟩ := h
  have hannounced : BudgetHolds p (s.onSched (withAnnounce c s.settings.coils[c].draw)) := by
    refine ⟨hdraws, fun _ a ha => ?_, hduty, hceil, (Nat.le_add_right _ _).trans hwithin⟩
    obtain rfl := Option.some.inj ha
    exact ⟨harmed, hup, rfl⟩
  exact hannounced.noteDraw

theorem BudgetHolds.scanAlone (h : BudgetHolds p s) (c : CoilNo) (hel : eligible s c = true)
    (hnone : s.sched.announce = none) : BudgetHolds p (scanAlone c s) := by
  unfold Machine.scanAlone
  dsimp only
  split
  next hfits =>
    exact (h.startKick c hel (d := 0) (carriedDraw_of_none hnone).le hfits).ite (h.enterAnnouncing c hel)
  next => exact h

theorem BudgetHolds.scanAhead (h : BudgetHolds p s) (c : CoilNo) (hel : eligible s c = true) {a : Announce}
    (ha : s.sched.announce = some a) : BudgetHolds p (scanAhead c a.draw s) := by
  unfold Machine.scanAhead
  dsimp only
  split
  next hboth => exact h.startKick c hel (carriedDraw_le ha) (Bool.and_eq_true_iff.1 hboth).1
  next => exact h

theorem BudgetHolds.scanQueue (h : BudgetHolds p s) : BudgetHolds p (scanQueue s) := by
  unfold Machine.scanQueue
  split
  next => exact h
  next e hcand =>
    have hel := candidate_eligible hcand
    split
    next hnone => exact h.scanAlone e.coil hel hnone
    next a ha => exact h.ite (h.scanAhead e.coil hel ha)

theorem BudgetHolds.scan (h : BudgetHolds p s) : BudgetHolds p (scan s) := by
  have hscanned : BudgetHolds p (s.onSched fun q => { q with scanDue := false }) := h
  exact hscanned.scanQueue.ite h

/-- R36: the re-test finds room for the announced kick, or withdraws it. -/
theorem BudgetHolds.retest (h : BudgetHolds p s) : BudgetHolds p (retest s) := by
  unfold Machine.retest
  split
  next => exact h
  next a ha =>
    split
    next hfits =>
      have hroom := room_of_fits hfits
      refine ⟨h.drawMatches, fun hp x hx => ?_, h.duties, h.ceiling_le, ?_⟩
      · obtain rfl := Option.some.inj hx
        exact h.stands hp a ha
      · change s.sched.committed + s.settings.reserve + a.draw ≤ budget s
        omega
    next => exact h.withdraw

/-- R40: the announced kick takes the draw that was kept for it. -/
theorem BudgetHolds.startAnnounced (h : BudgetHolds True s) : BudgetHolds True (startAnnounced s) := by
  unfold Machine.startAnnounced
  split
  next => exact h
  next a ha =>
    split
    next hcarried =>
      split
      next hel =>
        have hdraw := (h.stands trivial a ha).2.2
        have hwithin := h.within
        rw [carriedDraw_of_carried ha hcarried, hdraw] at hwithin
        have hgone : BudgetHolds True (s.onSched fun q => { q with announce := none }) := h.announceGone _ rfl rfl
        have hroom : s.sched.committed + s.settings.coils[a.coil].draw + s.settings.reserve + 0 ≤ budget s := by
          omega
        exact (hgone.startKickRaw a.coil (configured_of_eligible hel) hroom).noteDraw.promptScan
      next => exact h.withdraw
    next => exact h

/-! #### The channels, the switches and the heat -/

/-- R48, R52: a hold draws no more than the kick it follows. -/
theorem BudgetHolds.kickEnds (h : BudgetHolds p s) (c : CoilNo) (hkick : s.coils[c].state = .kick) :
    BudgetHolds p (kickEnds c s) := by
  have hconf : ¬Unconfigured s := h.configured hkick (by decide)
  unfold Machine.kickEnds
  dsimp only
  split
  next => exact h.enterRest c hconf
  next hcls =>
    refine h.moveChannel c _ (.inr hconf) ?_
    rw [drawOf_of_kick (by rw [hcls]; decide) hkick, drawOf_of_latch_hold hcls rfl]
    exact holdDraw_le (h.duties c)
  next hcls => exact h.moveChannel c _ (.inr hconf) ((drawOf_of_flipper hcls _).trans_le (Nat.zero_le _))

theorem BudgetHolds.holdEnds (h : BudgetHolds p s) (c : CoilNo) (hhold : s.coils[c].state = .hold) :
    BudgetHolds p (holdEnds c s) := by
  have hconf : ¬Unconfigured s := h.configured hhold (by decide)
  have hmarked : BudgetHolds p (s.onCoils fun v => v.set c { v[c] with needsRelease := true }) := h.setCoil c rfl
  exact (hmarked.enterRest c hconf).ite (h.enterRest c hconf)

theorem configured_of_senseJudged (h : senseJudged s.link.state = true) : ¬Unconfigured s := by
  rintro (hu | hu) <;> simp [senseJudged, hu] at h

theorem configured_of_openCheckDue {c : CoilNo} (h : openCheckDue c s = true) : ¬Unconfigured s := by
  unfold openCheckDue at h
  split at h
  · exact configured_of_senseJudged (Bool.and_eq_true_iff.1 h).2
  · simp at h

theorem CoilChannel.sensed_state (ch : CoilChannel) (r : Sense) : (ch.sensed r).state = ch.state := by
  unfold CoilChannel.sensed
  split
  · rfl
  split
  · rfl
  split <;> rfl

theorem BudgetHolds.senseChanges (h : BudgetHolds p s) (c : CoilNo) (r : Sense) :
    BudgetHolds p (senseChanges c r s) := by
  have hpin : BudgetHolds p (s.onPins fun p => { p with sense := p.sense.set c r }) := h
  unfold Machine.senseChanges
  dsimp only
  split
  next hjudged =>
    have hsensed : BudgetHolds p ((s.onPins fun p => { p with sense := p.sense.set c r }).onCoils fun v =>
        v.set c (v[c].sensed r)) := hpin.setCoil c (CoilChannel.sensed_state _ r)
    exact (hsensed.enterFault c .short (configured_of_senseJudged hjudged)).ite hsensed
  next => exact hpin

theorem BudgetHolds.restartOff (h : BudgetHolds p s) (c : CoilNo) : BudgetHolds p (restartOff c s) :=
  h.setCoil c rfl

theorem BudgetHolds.offCurrent (h : BudgetHolds p s) (c : CoilNo) (hconf : ¬Unconfigured s) :
    BudgetHolds p (offCurrent c s) := by
  have hstuck : BudgetHolds p (s.onCoils fun v =>
      v.set c { v[c] with faultKind := some .stuck, offTimer := some (startTimer stuckTime) }) := h.setCoil c rfl
  exact ((h.restartOff c).ite (hstuck.reportFault c .stuck)).ite ((h.enterFault c .stuck hconf).restartOff c)

theorem BudgetHolds.releaseFlipper (h : BudgetHolds p s) (c : CoilNo) : BudgetHolds p (releaseFlipper c s) := by
  have hcleared : BudgetHolds p (s.onCoils fun v => v.set c { v[c] with needsRelease := false }) := h.setCoil c rfl
  unfold Machine.releaseFlipper
  dsimp only
  split
  next hdriven =>
    exact hcleared.enterRest c (hdriven.elim (hcleared.configured · (by decide)) (hcleared.configured · (by decide)))
  next => exact hcleared

theorem BudgetHolds.press (h : BudgetHolds p s) (c : CoilNo) (hcls : s.settings.coils[c].cls = .flipper) :
    BudgetHolds p (press c s) := by
  unfold Machine.press
  split
  next hpress => exact h.flipperKick c hcls hpress.2
  next => exact h

theorem BudgetHolds.flipperEdge (h : BudgetHolds p s) (sw : SwitchNo) (k : EdgeKind) :
    BudgetHolds p (flipperEdge sw k s) := by
  unfold Machine.flipperEdge
  refine h.foldl _ _ fun u c hu => ?_
  split
  next hcls =>
    cases k
    case close => exact hu.press c hcls.1
    case opened => exact hu.releaseFlipper c
  next => exact hu

theorem BudgetHolds.appendSwitch (h : BudgetHolds p s) (sw : SwitchNo) (k : EdgeKind) :
    BudgetHolds p (appendSwitch sw k s) := by
  unfold Machine.appendSwitch
  split
  · split <;> exact h
  · exact h

theorem BudgetHolds.takeEdge (h : BudgetHolds p s) (sw : SwitchNo) : BudgetHolds p (takeEdge sw s) := by
  unfold Machine.takeEdge
  dsimp only
  refine BudgetHolds.localEdge (BudgetHolds.appendSwitch (BudgetHolds.flipperEdge ?_ sw _) sw _) _ sw _
  exact h

theorem BudgetHolds.switchInput (h : BudgetHolds p s) (sw : SwitchNo) (high : Bool) :
    BudgetHolds p (switchInput sw high s) := by
  unfold Machine.switchInput
  split
  · exact h
  · dsimp only
    split <;> exact h

theorem BudgetHolds.onThermal (h : BudgetHolds p s) (f : Thermal → Thermal) : BudgetHolds p (s.onThermal f) := h

theorem BudgetHolds.thermalChannel (h : BudgetHolds p s) (c : CoilNo) (hconf : ¬Unconfigured s) :
    BudgetHolds p (thermalChannel c s) := by
  have hheat : BudgetHolds p (heatChannel c s) := by
    unfold heatChannel
    dsimp only
    split <;> exact h
  have hlink : (heatChannel c s).link = s.link := (heatChannel_framed c s).2 .link (by simp)
  have hconf' : ¬Unconfigured (heatChannel c s) := by rwa [Unconfigured, hlink]
  have hlockout : BudgetHolds p (classifyLockout (keptAtTrip c s) c (heatChannel c s)) := by
    unfold classifyLockout
    dsimp only
    split
    · exact ((hheat.moveOff c (.inr hconf') rfl).removeCounted _ c).raise _
    · exact (hheat.moveIdle c rfl).ite hheat
  exact hlockout.ite ((hlockout.onThermal _).rechooseDuty c)

theorem configured_of_thermalDue (h : thermalDue s = true) : ¬Unconfigured s := by
  rintro (hu | hu) <;> simp [thermalDue, thermalRuns, hu] at h

theorem BudgetHolds.thermalInterval (h : BudgetHolds p s) : BudgetHolds p (thermalInterval s) := by
  unfold Machine.thermalInterval
  split
  next hdue =>
    have hall : BudgetHolds p (allCoils.foldl (fun s c => Machine.thermalChannel c s) s) := by
      refine (List.foldlRecOn (motive := fun u => BudgetHolds p u ∧ ¬Unconfigured u) allCoils _
        ⟨h, configured_of_thermalDue hdue⟩ fun u ⟨hu, hconf⟩ c _ => ⟨hu.thermalChannel c hconf, ?_⟩).1
      have hlink : (Machine.thermalChannel c u).link = u.link := (thermalChannel_framed c u).2 .link (by simp)
      rwa [Unconfigured, hlink]
    exact hall.onThermal _
  next => exact h

/-! #### The lamps -/

theorem BudgetHolds.lampHalf (h : BudgetHolds p s) (n : LampNo) : BudgetHolds p (lampHalf n s) := by
  unfold Machine.lampHalf
  split
  · exact h
  · split
    · exact h.of_framed ((onLamps_framed _ s).trans (followDemand_framed n _)) (by simp)
    · exact h

theorem BudgetHolds.takeLampFrame (h : BudgetHolds p s) (payload : List Byte) :
    BudgetHolds p (takeLampFrame payload s) := by
  unfold Machine.takeLampFrame
  exact (h.of_framed (commandLamps_framed ..) (by simp)).ite (h.count _)

/-! #### The rail and the fault line -/

theorem BudgetHolds.judgeRail (h : BudgetHolds True s) : BudgetHolds True (judgeRail s) := by
  have hqualify : ∀ r : RailMonitor, r.state = s.rail.state → BudgetHolds True (s.onRail fun _ => r) := fun r hr =>
    h.onRail _ fun _ a ha => (h.stands trivial a ha).imp_right fun ⟨hup, hdraw⟩ => ⟨hr.trans hup, hdraw⟩
  unfold Machine.judgeRail
  dsimp only
  split
  · exact (h.changeRail _).ite h
  · exact (h.changeRail _).ite h
  · exact (h.changeRail _).ite (hqualify _ rfl)
  · exact (h.changeRail _).ite (hqualify _ rfl)

theorem BudgetHolds.railReading (h : BudgetHolds True s) (v : Nat) : BudgetHolds True (railReading v s) := by
  have hpin : BudgetHolds True (s.onPins fun p => { p with rail := v }) := h
  exact hpin.judgeRail.ite hpin

theorem BudgetHolds.lineAsserted (h : BudgetHolds p s) : BudgetHolds p (lineAsserted s) := by
  have hpin : BudgetHolds p (s.onPins fun p => { p with tfaultLow := true }) := h
  have hstopped : BudgetHolds p ((s.onPins fun p => { p with tfaultLow := true }).onFaultLine fun f =>
      { f with release := none }) := h
  exact (hstopped.enterSafe.ite hstopped).ite hpin

theorem BudgetHolds.lineReleased (h : BudgetHolds p s) : BudgetHolds p (lineReleased s) := by
  unfold Machine.lineReleased
  split
  · exact h
  · dsimp only
    split <;> exact h

theorem BudgetHolds.releaseSettled (h : BudgetHolds p s) : BudgetHolds p (releaseSettled s) := by
  have hnormal : BudgetHolds p (s.onFaultLine fun f => { f with drive := .normal, release := none }) := h
  exact hnormal.markDraw.promptScan.ite h

/-! #### The link -/

theorem BudgetHolds.setDegraded (h : BudgetHolds p s) (d : Bool) : BudgetHolds p (setDegraded d s) := by
  have hset : BudgetHolds p (s.onLink fun l => { l with degraded := d }) := h
  exact hset.markDraw.promptScan

theorem BudgetHolds.endWindow (h : BudgetHolds p s) : BudgetHolds p (endWindow s) := by
  have hzero : BudgetHolds p (s.onLink fun l => { l with windowFrames := 0, windowBad := 0 }) := h
  exact (hzero.ite ((hzero.setDegraded true).raise _)).ite (((hzero.setDegraded false).ite hzero).ite hzero)

theorem BudgetHolds.noteFrame (h : BudgetHolds p s) (bad : Bool) : BudgetHolds p (noteFrame bad s) := by
  have hcounted : ∀ {u : State}, BudgetHolds p u → BudgetHolds p (u.onLink fun l =>
      { l with windowFrames := l.windowFrames + 1, windowBad := l.windowBad + if bad then 1 else 0 }) := id
  exact (hcounted (h.endWindow.ite h)).ite h

theorem BudgetHolds.makeStale (h : BudgetHolds p s) (n : Nat) : BudgetHolds p (makeStale n s) := by
  unfold Machine.makeStale
  split <;> exact h

theorem BudgetHolds.removePeer (h : BudgetHolds p s) (n : Nat) : BudgetHolds p (removePeer n s) := by
  unfold Machine.removePeer
  split <;> exact h

theorem BudgetHolds.enterAnnounced (h : BudgetHolds True s) (hlink : s.link.state = .listen) :
    BudgetHolds True (enterAnnounced s) :=
  (h.relink _ (.inl (by simp)) (.inl (by rw [hlink]; decide)) (by rw [hlink]; decide)).noteLink

theorem BudgetHolds.enterArmed (h : BudgetHolds True s) (hlink : s.link.state = .announced) :
    BudgetHolds True (enterArmed s) :=
  (h.relink _ (.inl (by simp)) (.inl (by rw [hlink]; decide)) (by rw [hlink]; decide)).noteLink

theorem BudgetHolds.loseLink (h : BudgetHolds p s) (hs : s.link.state ≠ .offline) : BudgetHolds q (loseLink s) := by
  have hlisten : BudgetHolds False (s.onLink fun l =>
      { l with state := .listen, listenWindow := some (startTimer (cs (3 * s.settings.beat)))
               announcedTimer := none, silence := none }) := h.onLink _ (.inl (by simp)) (.inl hs) False.elim
  have hwithdrawn := (hlisten.raise .linkLost).withdraw (q := q)
  exact hwithdrawn.cutTransmit.noteLink

theorem BudgetHolds.listenWindowEnds (h : BudgetHolds p s) : BudgetHolds p (listenWindowEnds s) := by
  have hended : BudgetHolds p (s.onLink fun l => { l with listenWindow := none }) := h
  exact hended.markDraw.ite h

theorem BudgetHolds.takeOwnNumber (h : BudgetHolds p s) : BudgetHolds p (takeOwnNumber s) := by
  unfold Machine.takeOwnNumber
  split
  · exact h
  · exact h
  · exact h
  next hoff _ _ => exact h.enterDuplicate (.inl hoff)

theorem BudgetHolds.takeDraw (h : BudgetHolds p s) (f : Frame) : BudgetHolds p (takeDraw f s) := by
  unfold Machine.takeDraw
  split <;> exact h

theorem BudgetHolds.takeSwitch (h : BudgetHolds p s) (f : Frame) : BudgetHolds p (takeSwitch f s) := by
  have hrecorded : ∀ {u : State} (src sw seq : Nat) (e : EdgeKind), BudgetHolds p u →
      BudgetHolds p (recordEdge src sw seq e u) := fun _ _ _ _ => id
  unfold Machine.takeSwitch
  dsimp only
  refine BudgetHolds.remoteEdge ?_ _ _ _
  split
  · exact h
  · exact hrecorded _ _ _ _ (((h.count _).raise _).ite h)

/-! #### Receptions and service requests -/

theorem BudgetHolds.takeGood (h : BudgetHolds p s) : BudgetHolds p (takeGood s) := by
  have hreceived : BudgetHolds p (received s) := h
  exact (hreceived.count .good).heard.noteFrame false

theorem BudgetHolds.goodRow (h : BudgetHolds p s) (d : Destination) (rx : List Byte) {owner : Frame → State → State}
    (howner : ∀ f u, BudgetHolds p u → BudgetHolds p (owner f u)) : BudgetHolds p (goodRow d rx owner s) := by
  unfold Machine.goodRow
  split
  · exact h
  · exact howner _ _ h.takeGood

theorem BudgetHolds.takeFire (h : BudgetHolds p s) (f : Frame) : BudgetHolds p (takeFire f s) := by
  unfold Machine.takeFire
  split
  · exact h
  · exact h.request _ _ _ _

theorem BudgetHolds.endFragment (h : BudgetHolds p s) : BudgetHolds p (endFragment s) := by
  unfold Machine.endFragment
  split <;> exact h

theorem BudgetHolds.badReception (h : BudgetHolds p s) (rx : List Byte) : BudgetHolds p (badReception rx s) := by
  have hreceived : BudgetHolds p (received s) := h
  exact ((hreceived.count .bad).noteFrame true).ite h

theorem BudgetHolds.serviceRow (h : BudgetHolds p s) (code : Nat) {act : List Byte → State → State × Reply}
    (rx : List Byte) (hact : ∀ args u, BudgetHolds p u → BudgetHolds p (act args u).1) :
    BudgetHolds p (serviceRow code act rx s) := by
  have hplaced : ∀ {v : State} (r : Reply), BudgetHolds p v → BudgetHolds p (placeReply r v) := fun _ => id
  exact h.goodRow _ rx fun _ _ hu => (hplaced _ (hact _ _ hu)).ite (hu.count _)

/-- A request whose act only reads the state. -/
theorem BudgetHolds.readRow (h : BudgetHolds p s) (code : Nat) {act : List Byte → State → State × Reply}
    (rx : List Byte) (hact : ∀ args u, (act args u).1 = u) : BudgetHolds p (Machine.serviceRow code act rx s) :=
  h.serviceRow code rx fun args u hu => (hact args u).symm ▸ hu

theorem BudgetHolds.serveTestPulse (h : BudgetHolds p s) (args : List Byte) :
    BudgetHolds p (serveTestPulse args s).1 := by
  unfold Machine.serveTestPulse
  split
  · exact h.request _ _ _ _
  · exact h

theorem BudgetHolds.serveSetLamp (h : BudgetHolds p s) (args : List Byte) : BudgetHolds p (serveSetLamp args s).1 := by
  unfold Machine.serveSetLamp
  split
  · split
    · exact h
    · split
      · exact h.of_framed (commandLamps_framed ..) (by simp)
      · exact h
  · exact h

theorem BudgetHolds.clearFaults (h : BudgetHolds p s) (cs : List CoilNo) : BudgetHolds p (clearFaults cs s) := by
  have hkinds : ∀ {u : State} (c : CoilNo), BudgetHolds p u → BudgetHolds p (clearKinds c u) := fun _ => id
  unfold Machine.clearFaults
  refine h.foldl _ _ fun u c hu => hkinds c ?_
  unfold clearChannel
  exact (hu.moveIdle c rfl).ite hu

theorem BudgetHolds.serveClearFault (h : BudgetHolds p s) (args : List Byte) :
    BudgetHolds p (serveClearFault args s).1 := by
  unfold Machine.serveClearFault
  split
  · exact h
  · split
    · exact h
    · exact h.clearFaults _

theorem BudgetHolds.unknownRequest (h : BudgetHolds p s) (rx : List Byte) : BudgetHolds p (unknownRequest rx s) := by
  unfold Machine.unknownRequest
  split
  · exact h
  · exact (h.readRow _ rx fun _ _ => rfl).ite h

/-! #### Resets and start-up -/

/-- R21: right after a reset every quantity of the budget is 0. -/
theorem budgetHolds_reset : BudgetHolds p State.reset := by
  have hreset : WithinBudget State.reset := by decide
  exact ((withinBudget_iff _).1 hreset).restand fun _ => hreset.2.1

theorem budgetHolds_resetTo (r : Retained) (s : State) : BudgetHolds p (resetTo r s) :=
  budgetHolds_reset (p := p)

theorem budgetHolds_resetSupplyDip (s : State) : BudgetHolds p (resetSupplyDip s) :=
  (budgetHolds_resetTo _ s).ite (budgetHolds_resetTo _ s)

theorem budgetHolds_resetService (s : State) : BudgetHolds p (resetService s) :=
  (budgetHolds_resetTo _ s).ite (budgetHolds_resetTo _ s)

/-- A change of start-up alone, while the link is OFFLINE. -/
theorem BudgetHolds.onStartUp (h : BudgetHolds p s) (f : StartUp → StartUp) (hlink : s.link.state = .offline)
    (hhold : (f s.startUp).hold ≠ none → (f s.startUp).loader = .holding) : BudgetHolds p (s.onStartUp f) := by
  obtain ⟨⟨hsum, hidle, -⟩, hrest⟩ := h
  exact ⟨⟨hsum, hidle, hhold, fun _ => hlink⟩, hrest⟩

theorem BudgetHolds.holdEnd (h : BudgetHolds p s) (straps : BitVec 5) : BudgetHolds p (holdEnd straps s) := by
  unfold Machine.holdEnd
  split
  next hreached =>
    obtain ⟨hhold, hload⟩ := h.loads
    have hrunning : s.startUp.hold ≠ none := fun hnone => by simp [holdReached, hnone, timerReached] at hreached
    have hstarted := h.onStartUp (fun _ =>
      { hold := none, strapNumber := straps.toNat, loader := .reading 1, outcome := none })
      (hload (by simp [hhold hrunning])) (by simp)
    exact hstarted
  next => exact h

/-- R164: while a pass is read the link is OFFLINE and the hold is over. -/
theorem BudgetHolds.of_reading (h : BudgetHolds p s) {n : Nat} (hreading : s.startUp.loader = .reading n) :
    s.link.state = .offline ∧ s.startUp.hold = none := by
  obtain ⟨hhold, hload⟩ := h.loads
  refine ⟨hload (by simp [hreading]), by_contra fun hne => ?_⟩
  simp [hhold hne] at hreading

theorem BudgetHolds.rejectImage (h : BudgetHolds p s) (o : LoadOutcome) {n : Nat}
    (hreading : s.startUp.loader = .reading n) : BudgetHolds q (rejectImage o s) := by
  obtain ⟨hoff, hhold⟩ := h.of_reading hreading
  have hloaded := h.onStartUp (fun u => { u with loader := .ended, outcome := some o }) hoff (by simp [hhold])
  have hended : BudgetHolds p ((s.onStartUp fun u => { u with loader := .ended, outcome := some o }).onRetained fun r =>
      { r with leftOffline := true }) := hloaded
  have hheld := hended.onLink (q := False) (fun l => { l with state := .held, duplicateSeen := false })
    (.inr (.inl hoff)) (.inr rfl) False.elim
  have hflushed := hheld.endAllChannels.flushQueue (q := q)
  exact hflushed.noteLink

theorem clamp_le {lo hi n : Nat} : clamp lo hi n ≤ hi := Nat.min_le_left _ _

theorem byteAt_le (l : List Byte) (n : Nat) : byteAt l n ≤ 255 := Nat.le_of_lt_succ (BitVec.isLt _)

/-- Table 11-3, check 6: an accepted image leaves room for the flipper reserve. -/
theorem reserve_le_of_accepted {img : List Byte} {strap : Nat} (h : loadOutcome img strap = .accepted) :
    (settingsOf img).reserve + (settingsOf img).headroom ≤ (settingsOf img).capacity ∧
      (settingsOf img).reserve ≤ (settingsOf img).ceiling := by
  by_contra hno
  unfold loadOutcome at h
  dsimp only at h
  rw [if_pos hno] at h
  split_ifs at h

/-- R167: the settings of an accepted image, taken while every channel is IDLE and no announce stands. -/
theorem BudgetHolds.takeSettings (h : BudgetHolds True s) {img : List Byte} {n : Nat}
    (hreading : s.startUp.loader = .reading n) (hacc : loadOutcome img s.startUp.strapNumber = .accepted) :
    BudgetHolds q (takeSettings img s) := by
  obtain ⟨hoff, hhold⟩ := h.of_reading hreading
  have hnone : s.sched.announce = none := announce_none_of_link (h.stands trivial) (by rw [hoff]; decide)
  have hidle : ∀ c : CoilNo, (Machine.takeSettings img s).coils[c].state = .idle := fun c => by
    simpa [Machine.takeSettings, coilsAtAcceptance] using h.idle (.inl hoff) c
  have hzero : s.sched.committed = 0 := h.committed_eq.trans (drawSum_of_idle (h.idle (.inl hoff)))
  obtain ⟨hcapacity, hceiling⟩ := reserve_le_of_accepted hacc
  refine ⟨⟨hzero.trans (drawSum_of_idle hidle).symm, fun _ => hidle, fun hne => absurd hhold hne,
    fun hne => absurd rfl hne⟩, fun _ => announceStands_of_none (s := Machine.takeSettings img s) hnone, fun c => ?_,
    byteAt_le img 4, ?_⟩
  · simpa [Machine.takeSettings, settingsOf, imageCoils, coilRecord] using clamp_le
  · have hbudget : (settingsOf img).reserve ≤ budget (Machine.takeSettings img s) :=
      le_min hceiling (Nat.le_sub_of_add_le hcapacity)
    rw [carriedDraw_of_none (s := Machine.takeSettings img s) hnone]
    change s.sched.committed + (settingsOf img).reserve + 0 ≤ _
    omega

theorem BudgetHolds.leaveOffline (h : BudgetHolds True s) (hoff : s.link.state = .offline)
    (hended : s.startUp.loader = .ended) : BudgetHolds True (leaveOffline s) := by
  have hcleared : BudgetHolds True (s.onLink fun l => { l with duplicateSeen := false }) := h
  have hlisten : BudgetHolds True (enterListen (s.onLink fun l => { l with duplicateSeen := false })) :=
    (hcleared.relink _ (.inl (by simp)) (.inr hended) (by simp [hoff])).noteLink
  exact (hcleared.enterDuplicate (.inr hended)).ite hlisten

theorem BudgetHolds.acceptImage (h : BudgetHolds True s) {img : List Byte} {n : Nat}
    (hreading : s.startUp.loader = .reading n) (hacc : loadOutcome img s.startUp.strapNumber = .accepted) :
    BudgetHolds True (acceptImage img s) := by
  have hlamps := startLamps_framed (Machine.takeSettings img s)
  have hstart : (startLamps (Machine.takeSettings img s)).startUp = (Machine.takeSettings img s).startUp :=
    hlamps.2 .startUp (by simp)
  have hlink : (startLamps (Machine.takeSettings img s)).link = (Machine.takeSettings img s).link :=
    hlamps.2 .link (by simp)
  have hstarted : BudgetHolds True (startLamps (Machine.takeSettings img s)) :=
    (h.takeSettings hreading hacc).of_framed hlamps (by simp)
  unfold Machine.acceptImage
  exact (hstarted.leaveOffline (by rw [hlink]; exact (h.of_reading hreading).1) (by rw [hstart]; rfl)).judgeRail

theorem BudgetHolds.readError (h : BudgetHolds p s) : BudgetHolds p (readError s) := by
  unfold Machine.readError
  split
  next n hreading =>
    obtain ⟨hoff, hhold⟩ := h.of_reading hreading
    exact (h.onStartUp _ hoff (by simp [hhold])).ite (h.rejectImage _ hreading)
  next => exact h

theorem BudgetHolds.retryRead (h : BudgetHolds p s) : BudgetHolds p (retryRead s) := by
  unfold Machine.retryRead
  split
  next n t hwaiting =>
    obtain ⟨hhold, hload⟩ := h.loads
    refine BudgetHolds.ite (h.onStartUp _ (hload (by simp [hwaiting])) fun hne => ?_) h
    simp [hhold hne] at hwaiting
  next => exact h

theorem BudgetHolds.passEnd (h : BudgetHolds True s) (img : List Byte) : BudgetHolds True (passEnd img s) := by
  unfold Machine.passEnd
  split
  next n hreading =>
    refine BudgetHolds.ite ?_ h
    split
    next hacc => exact h.acceptImage hreading hacc
    next => exact h.rejectImage _ hreading
  next => exact h

/-! #### Sending -/

theorem BudgetHolds.startSeries (h : BudgetHolds p s) : BudgetHolds p (startSeries s) := by
  unfold Machine.startSeries
  split <;> exact h

theorem BudgetHolds.sampled (h : BudgetHolds p s) (d : ReplyData) : BudgetHolds p (sampled d s) := by
  unfold Machine.sampled
  split
  · exact h
  · split <;> exact h
  · exact h

theorem BudgetHolds.beginSeriesAttempt (h : BudgetHolds p s) : BudgetHolds p (beginSeriesAttempt s) := by
  have hdraw : BudgetHolds p (attemptDraw s) := h.retest
  have hreply : ∀ r, BudgetHolds p (attemptReply r s) := fun r => BudgetHolds.sampled (s := beginAttempt _ s) h r.data
  unfold Machine.beginSeriesAttempt
  split
  · split
    · exact hdraw
    · exact h
    · exact hreply _
    · exact h
  · exact h

theorem BudgetHolds.drawCompleted (h : BudgetHolds True s) (n : Nat) : BudgetHolds True (drawCompleted n s) :=
  h.startAnnounced.ite_else markDraw

theorem BudgetHolds.linkDrawCompleted (h : BudgetHolds True s) : BudgetHolds True (linkDrawCompleted s) := by
  unfold Machine.linkDrawCompleted
  split
  · exact h
  · split
    next hlisten => exact h.enterAnnounced hlisten.1
    next => exact h

theorem BudgetHolds.completeReply (h : BudgetHolds p s) (f : Frame) : BudgetHolds p (completeReply f s) := by
  have hcompleted : ∀ {u : State} (r : Reply), BudgetHolds p u → BudgetHolds p (replyCompleted f r u) := by
    intro u r hu
    have hreported : BudgetHolds p (eventsReported (BitVec.ofNat 16 (pairAt f.payload 2)) u) := hu
    exact BudgetHolds.ite (budgetHolds_resetService _) (hreported.ite hu)
  unfold Machine.completeReply
  dsimp only
  split
  · exact hcompleted _ h
  · exact h

theorem BudgetHolds.attemptSucceeds (h : BudgetHolds True s) : BudgetHolds True (attemptSucceeds s) := by
  have hended : BudgetHolds True (Machine.heard (endSeries s)) := BudgetHolds.heard (s := endSeries s) h
  have hbeat : ∀ {u : State}, BudgetHolds True u → BudgetHolds True (startBeat u) := id
  have hswitch : ∀ {u : State} (cut : Bool), BudgetHolds True u → BudgetHolds True (completeSwitch cut u) :=
    fun _ hu => BudgetHolds.ite hu hu
  unfold Machine.attemptSucceeds
  split
  · dsimp only
    split
    · exact hbeat (hended.drawCompleted _).linkDrawCompleted
    · exact hswitch _ hended
    · exact hended.completeReply _
  · exact h

theorem BudgetHolds.abandonDraw (h : BudgetHolds p s) : BudgetHolds p (abandonDraw s) := by
  unfold Machine.abandonDraw
  dsimp only
  split <;> exact h.markDraw.withdraw (q := p)

theorem BudgetHolds.abandon (h : BudgetHolds p s) (r : Series) : BudgetHolds p (abandon r s) := by
  have hended : BudgetHolds p (endSeries s) := h
  have hcounted := (hended.count .abandoned).raise .txAbandon
  unfold Machine.abandon
  dsimp only
  split
  · exact hcounted.abandonDraw
  · exact hcounted
  · exact hcounted

theorem BudgetHolds.attemptFails (h : BudgetHolds p s) : BudgetHolds p (attemptFails s) := by
  have hended : BudgetHolds p (endSeries s) := h
  unfold Machine.attemptFails
  split
  · exact h
  · exact hended.ite ((h.abandon _).ite h)

theorem BudgetHolds.beatExpired (h : BudgetHolds p s) : BudgetHolds p (beatExpired s) := by
  have hstopped : BudgetHolds p (s.onBus fun b => { b with beatTimer := none }) := h
  exact hstopped.markDraw.ite h

/-! #### Time -/

theorem elapse_coilState (s : State) (c : CoilNo) : (elapse s).coils[c].state = s.coils[c].state := by
  rw [elapse_coils]
  rfl

theorem carriedDraw_elapse (s : State) : carriedDraw (elapse s) = carriedDraw s := by
  cases ha : s.sched.announce <;> simp [carriedDraw, elapse, ha, Announce.elapse]

theorem announceStands_elapse (h : AnnounceStands s) : AnnounceStands (elapse s) := by
  intro a ha
  obtain ⟨b, hb, rfl⟩ := Option.map_eq_some_iff.1 ha
  exact h b hb

theorem loadsOffline_elapse (h : LoadsOffline s) : LoadsOffline (elapse s) := by
  obtain ⟨hhold, hload⟩ := h
  refine ⟨fun hne => ?_, fun hne => hload fun hended => hne (Loader.elapse_eq_ended.2 hended)⟩
  have hrunning : s.startUp.hold ≠ none := fun hnone => hne (by simp [elapse, hnone, advanceTimer])
  simp [elapse, hhold hrunning, Loader.elapse]

theorem BudgetHolds.elapse (h : BudgetHolds p s) : BudgetHolds p (elapse s) := by
  obtain ⟨⟨hsum, hidle, hloads⟩, hann, hduty, hceil, hwithin⟩ := h
  have hsame : drawSum (Machine.elapse s) = drawSum s := drawSum_congr rfl (elapse_coilState s)
  have hidle' : Unconfigured (Machine.elapse s) → ∀ c : CoilNo, (Machine.elapse s).coils[c].state = .idle :=
    fun hu c => (elapse_coilState s c).trans (hidle hu c)
  refine ⟨⟨hsum.trans hsame.symm, hidle', loadsOffline_elapse hloads⟩, fun hp => announceStands_elapse (hann hp),
    hduty, hceil, ?_⟩
  rw [carriedDraw_elapse]
  exact hwithin

end

/-! #### Every row, and every step -/

theorem BudgetHolds.exec {s : State} (h : BudgetHolds True s) (i : Instr) : Yields (exec i s) (BudgetHolds True) := by
  cases i
  case powerOn => exact ⟨_, rfl, budgetHolds_resetTo _ s⟩
  case supplyDip => exact ⟨_, rfl, budgetHolds_resetSupplyDip s⟩
  case powerUpHoldEnd straps => exact ⟨_, rfl, h.holdEnd straps⟩
  case configReadError => exact ⟨_, rfl, h.readError⟩
  case configRetryWaitExpiry => exact ⟨_, rfl, h.retryRead⟩
  case configPassEnd image => exact ⟨_, rfl, h.passEnd image⟩
  case stationClockTick => exact ⟨_, rfl, BudgetHolds.ite h h⟩
  case switchInputChange sw high => exact ⟨_, rfl, h.switchInput sw high⟩
  case switchAdoption sw => exact ⟨_, rfl, BudgetHolds.ite h h⟩
  case switchEdge sw => exact ⟨_, rfl, (h.takeEdge sw).ite h⟩
  case scan => exact ⟨_, rfl, h.scan⟩
  case announceTimerExpiry => exact ⟨_, rfl, h.withdraw.ite h⟩
  case waitLimitExpiry c => exact ⟨_, rfl, (((h.removeEntry c).count _).raise _).ite h⟩
  case kickTimerExpiry c =>
    refine ⟨_, rfl, ?_⟩
    split
    next hdue => exact h.kickEnds c (of_decide_eq_true (Bool.and_eq_true_iff.1 hdue).1)
    next => exact h
  case holdLimitExpiry c =>
    refine ⟨_, rfl, ?_⟩
    split
    next hdue => exact h.holdEnds c (of_decide_eq_true (Bool.and_eq_true_iff.1 hdue).1)
    next => exact h
  case restTimerExpiry c => exact ⟨_, rfl, (h.restEnds c).ite h⟩
  case kickOpenCheck c =>
    refine ⟨_, rfl, ?_⟩
    split
    next hdue => exact h.enterFault c .opened (configured_of_openCheckDue hdue)
    next => exact h
  case senseReadingChange c r => exact ⟨_, rfl, h.senseChanges c r⟩
  case offCurrentTimerExpiry c =>
    refine ⟨_, rfl, ?_⟩
    split
    next hdue => exact h.offCurrent c (configured_of_senseJudged (Bool.and_eq_true_iff.1 hdue).2)
    next => exact h
  case thermalIntervalExpiry => exact ⟨_, rfl, h.thermalInterval⟩
  case lampHalfExpiry n => exact ⟨_, rfl, h.lampHalf n⟩
  case lampPhaseExpiry => exact ⟨_, rfl, BudgetHolds.ite h h⟩
  case warmUpExpiry n => exact ⟨_, rfl, BudgetHolds.ite h h⟩
  case railReadingChange v => exact ⟨_, rfl, h.railReading v.toNat⟩
  case settleTimerExpiry => exact ⟨_, rfl, (h.changeRail .up).ite h⟩
  case sagQualifyExpiry => exact ⟨_, rfl, (h.changeRail .sag).ite h⟩
  case sagClearExpiry => exact ⟨_, rfl, (h.changeRail .up).ite h⟩
  case faultLineAsserted => exact ⟨_, rfl, h.lineAsserted⟩
  case faultLineReleased => exact ⟨_, rfl, h.lineReleased⟩
  case releaseSettleExpiry => exact ⟨_, rfl, h.releaseSettled⟩
  case badFrame rx => exact ⟨_, rfl, h.badReception rx⟩
  case fragment => exact ⟨_, rfl, h.endFragment⟩
  case filteredFrame rx => exact ⟨_, rfl, h.goodRow _ rx fun _ _ hu => hu.count _⟩
  case ownNumberFrame rx => exact ⟨_, rfl, h.goodRow _ rx fun _ _ hu => hu.takeOwnNumber⟩
  case drawFrame rx => exact ⟨_, rfl, h.goodRow _ rx fun f _ hu => hu.takeDraw f⟩
  case switchFrame rx => exact ⟨_, rfl, h.goodRow _ rx fun f _ hu => hu.takeSwitch f⟩
  case fireFrame rx => exact ⟨_, rfl, h.goodRow _ rx fun f _ hu => hu.takeFire f⟩
  case lampFrame rx => exact ⟨_, rfl, h.goodRow _ rx fun f _ hu => hu.takeLampFrame f.payload⟩
  case status rx => exact ⟨_, rfl, h.readRow 1 rx fun _ _ => rfl⟩
  case readEvents rx => exact ⟨_, rfl, h.readRow 2 rx fun _ _ => rfl⟩
  case readCounters rx => exact ⟨_, rfl, h.readRow 3 rx fun _ _ => by unfold serveReadCounters; split <;> rfl⟩
  case readPeer rx => exact ⟨_, rfl, h.readRow 4 rx fun _ _ => by unfold serveReadPeer; split <;> rfl⟩
  case readCoil rx => exact ⟨_, rfl, h.readRow 5 rx fun _ _ => by unfold serveReadCoil; split <;> rfl⟩
  case readSwitch rx => exact ⟨_, rfl, h.readRow 6 rx fun _ _ => by unfold serveReadSwitch; split <;> rfl⟩
  case testPulse rx => exact ⟨_, rfl, h.serviceRow 7 rx fun args _ hu => hu.serveTestPulse args⟩
  case setLamp rx => exact ⟨_, rfl, h.serviceRow 8 rx fun args _ hu => hu.serveSetLamp args⟩
  case clearFault rx => exact ⟨_, rfl, h.serviceRow 9 rx fun args _ hu => hu.serveClearFault args⟩
  case restart rx => exact ⟨_, rfl, h.readRow 10 rx fun _ _ => rfl⟩
  case svcUnknownRequest rx => exact ⟨_, rfl, h.unknownRequest rx⟩
  case txSeriesStart => exact ⟨_, rfl, h.startSeries⟩
  case txWaitExpiry => exact ⟨_, rfl, h.endFragment.beginSeriesAttempt.ite h⟩
  case txAttemptSuccess => exact ⟨_, rfl, h.attemptSucceeds.ite h⟩
  case txAttemptFailure => exact ⟨_, rfl, h.attemptFails.ite h⟩
  case txAbandon => exact ⟨_, rfl, h.attemptFails.ite h⟩
  case beatTimerExpiry => exact ⟨_, rfl, h.beatExpired⟩
  case listenWindowExpiry => exact ⟨_, rfl, h.listenWindowEnds⟩
  case announcedTimerExpiry =>
    refine ⟨_, rfl, ?_⟩
    split
    next hdue => exact h.enterArmed (of_decide_eq_true (Bool.and_eq_true_iff.1 hdue).1)
    next => exact h
  case linkLost =>
    refine ⟨_, rfl, ?_⟩
    split
    next hdue => exact h.loseLink fun hoff => by simp [linkLossDue, hoff] at hdue
    next => exact h
  case peerStaleExpiry n => exact ⟨_, rfl, h.makeStale n⟩
  case peerRemovalExpiry n => exact ⟨_, rfl, h.removePeer n⟩
  case qualityWindowEnd => exact ⟨_, rfl, h.endWindow.ite h⟩
  case validityMarkLost => exact ⟨_, rfl, h⟩
  case startBitOnLine => exact ⟨_, rfl, h.of_framed (startBit_framed s) (by simp)⟩

/-- Settles O10: what holds of the budget at one state holds after every row and after a quantum of time, and a draw
that a completion may still add is at least 0. -/
theorem budgetNeverExceeded : Obligations.BudgetNeverExceeded := by
  intro s t hs hstep
  have ht : BudgetHolds True t := by
    have h := (withinBudget_iff s).1 hs
    rcases step_cases s with ⟨i, q, hi⟩ | htime
    · have hq : BudgetHolds True (s.withPending q) := h
      obtain ⟨u, hu, hbudget⟩ := hq.exec i
      obtain rfl : u = t := by simpa [hi, hu] using hstep
      exact hbudget
    · obtain rfl : elapse s = t := by simpa [htime] using hstep
      exact h.elapse
  have hwithin := ht.within
  have hceiling : t.settings.ceiling ≤ 255 := ht.ceiling_le
  have hbudget : budget t ≤ t.settings.ceiling := Nat.min_le_left _ _
  exact ⟨(withinBudget_iff t).2 ht, by omega, (Nat.le_add_right _ _).trans hwithin⟩

end Sys2Proof.Machine
end

section
/-! The coil channels' own changes: a change of one channel, whole (R23, R29, R39, R46, R63), the entry to REST with
the rest that ends at once (R47, R49, R55), and from these the ends of a kick, of a hold and of a rest. -/

namespace Sys2Proof.Machine

/-! ### A change of one channel, whole -/

/-- R46: a change of a channel that prompts a scan: a return to IDLE from REST, LOCKOUT or FAULT. -/
abbrev ReturnsToIdle (old new : CoilState) : Prop := new = .idle ∧ (old = .rest ∨ old = .lockout ∨ old = .fault)

theorem not_returnsToIdle {old new : CoilState} (h : new ≠ .idle) : ¬ReturnsToIdle old new := fun hreturn => h hreturn.1

/-- R63, R65: a channel's record after its change to `new`, with the off-current timer that follows. -/
def offTimed (old new : CoilChannel) (sense : Sense) : CoilChannel :=
  { new with offTimer := offTimerAfter old new sense }

/-- R23: D_own after a change of channel `c` to `new`. -/
def committedAfter (c : CoilNo) (new : CoilChannel) (s : State) : Nat :=
  s.sched.committed + drawOf s.settings.coils[c] new - drawOf s.settings.coils[c] s.coils[c]

section
variable (s : State) (c : CoilNo) (new : CoilChannel)

/-- R39: the announce stays as it is, so the reported draw follows D_own. -/
theorem reportedDraw_moveRaw : reportedDraw (moveRaw c new s) ≠ reportedDraw s ↔
    committedAfter c new s ≠ s.sched.committed := by
  have hcommitted : (moveRaw c new s).sched.committed = committedAfter c new s := moveRaw_committed c new s
  unfold reportedDraw
  rw [(moveRaw_queue c new s).2, hcommitted]
  split
  · rfl
  · exact not_congr Nat.add_right_cancel_iff

theorem moveRaw_eq : moveRaw c new s = { s with
    coils := s.coils.set c (offTimed s.coils[c] new s.pins.sense[c])
    sched := { s.sched with
      committed := committedAfter c new s
      scanDue := s.sched.scanDue || decide (ReturnsToIdle s.coils[c].state new.state) } } := by
  unfold moveRaw
  dsimp only
  split
  next hreturn => rw [decide_eq_true hreturn, Bool.or_true]; rfl
  next hreturn => rw [decide_eq_false hreturn, Bool.or_false]; rfl

theorem moveChannel_eq_noteDraw : moveChannel c new s =
    { moveRaw c new s with
      sched := { (moveRaw c new s).sched with
        scanDue := (moveRaw c new s).sched.scanDue || decide (committedAfter c new s ≠ s.sched.committed) }
      bus := markedIf (decide (committedAfter c new s ≠ s.sched.committed)) s } := by
  have hcommitted : (moveRaw c new s).sched.committed = committedAfter c new s := moveRaw_committed c new s
  rw [moveChannel, noteDraw_eq, decide_eq_decide.2 (reportedDraw_moveRaw s c new), hcommitted, moveRaw_eq]
  rfl

/-- R23, R29, R39: a change of a channel that is no return to IDLE, whole. -/
theorem moveChannel_eq (h : ¬ReturnsToIdle s.coils[c].state new.state) : moveChannel c new s =
    channelMoved c (offTimed s.coils[c] new s.pins.sense[c]) (committedAfter c new s) s := by
  rw [moveChannel_eq_noteDraw, moveRaw_eq, decide_eq_false h, Bool.or_false]
  rfl

/-- R46: a return to IDLE, whole; D_own is as it was. -/
theorem moveChannel_of_return (h : ReturnsToIdle s.coils[c].state new.state) : moveChannel c new s =
    scanOwed { s with coils := s.coils.set c (offTimed s.coils[c] new s.pins.sense[c]) } := by
  obtain ⟨hidle, hold⟩ := h
  have hnew : drawOf s.settings.coils[c] new = 0 := drawOf_of_off (by rw [hidle]; rfl)
  have hoff : drawOf s.settings.coils[c] s.coils[c] = 0 :=
    drawOf_of_off (by rcases hold with hst | hst | hst <;> rw [hst] <;> rfl)
  have hsame : committedAfter c new s = s.sched.committed := by rw [committedAfter, hnew, hoff]; rfl
  rw [moveChannel_eq_noteDraw, moveRaw_eq, hsame, decide_eq_true ⟨hidle, hold⟩, Bool.or_true,
    decide_eq_false (not_not_intro rfl), markedIf]
  simp [scanOwed]

end

/-! ### The off-current timer and D_own after a change -/

section
variable {old new : CoilChannel} {sense : Sense}

/-- R63: the off-current timer is stopped while the output is commanded on. -/
theorem offTimed_of_on (h : commandedOn new.state = true) : offTimed old new sense = { new with offTimer := none } := by
  rw [offTimed, offTimerAfter, if_pos h]

/-- R63: an output that goes off starts the off-current timer if current is still sensed. -/
theorem offTimed_of_turnedOff (hold : commandedOn old.state = true) (h : commandedOn new.state = false) :
    offTimed old new sense =
      { new with offTimer := if sense = .none then none else some (startTimer (ms 5)) } := by
  rw [offTimed, offTimerAfter, if_neg (ne_true_of_eq_false h), hold]
  rfl

/-- R63: an output that stays off lets the off-current timer run on, apart from a return from FAULT. -/
theorem offTimed_of_off (hold : commandedOn old.state = false) (hfault : old.state ≠ .fault)
    (h : commandedOn new.state = false) : offTimed old new sense = { new with offTimer := old.offTimer } := by
  simp [offTimed, offTimerAfter, h, hold, hfault]

end

section
variable {s : State} {c : CoilNo} {new : CoilChannel}

/-- R23: a channel that goes off takes its draw from D_own. -/
theorem committedAfter_of_off (h : commandedOn new.state = false) :
    committedAfter c new s = s.sched.committed - drawOf s.settings.coils[c] s.coils[c] := by
  rw [committedAfter, drawOf_of_off h, Nat.add_zero]

/-- R22: a FLIPPER draws from the reserve. -/
theorem committedAfter_of_flipper (h : s.settings.coils[c].cls = .flipper) :
    committedAfter c new s = s.sched.committed := by
  rw [committedAfter, drawOf_of_flipper h, drawOf_of_flipper h]
  rfl

end

/-! ### A channel moved twice -/

section
variable (s : State) (c : CoilNo) (ch : CoilChannel) (n : Nat)

theorem channelMoved_coil : (channelMoved c ch n s).coils[c] = ch := by simp [channelMoved]

/-- The needs-release mark of channel `c` becomes `on` (R51, R54). -/
def releaseMarked (on : Bool) : State := s.onCoils fun v => v.set c { v[c] with needsRelease := on }

theorem releaseMarked_coil (on : Bool) : (releaseMarked s c on).coils[c] = { s.coils[c] with needsRelease := on } := by
  simp [releaseMarked]

/-- What a channel moves to stands, whatever its needs-release mark was. -/
theorem channelMoved_releaseMarked (on : Bool) :
    channelMoved c ch n (releaseMarked s c on) = channelMoved c ch n s := by
  have hcoils : (releaseMarked s c on).coils.set c ch = s.coils.set c ch := by simp [releaseMarked]
  rw [channelMoved, hcoils]
  rfl

end

/-! ### The quick re-flip -/

/-- R50: the model's test of the three conditions. -/
theorem pressAllowed_iff (s : State) : pressAllowed s = true ↔ MayPress s := by
  simp [pressAllowed, and_assoc, or_assoc]

/-- R55: what makes the end of a rest a quick re-flip. -/
abbrev Reflips (c : CoilNo) (s : State) : Prop :=
  s.settings.coils[c].cls = .flipper ∧
    (s.switches.records.toList.getD s.settings.coils[c].holdSource SwitchRecord.reset).level = .closed ∧
    s.coils[c].needsRelease = false ∧ pressAllowed s = true

section
variable {s : State} {c : CoilNo}

theorem restEnds_of_reflips (h : Reflips c s) : restEnds c s = flipperKick c s := if_pos h

theorem restEnds_of_not_reflips (h : ¬Reflips c s) : restEnds c s = moveChannel c (s.coils[c].stopped .idle) s :=
  if_neg h

theorem not_reflips_of_not_flipper (h : s.settings.coils[c].cls ≠ .flipper) : ¬Reflips c s := fun ⟨hcls, _⟩ => h hcls

/-- R55: the re-flip of a FLIPPER, by the switch that is its hold source. -/
theorem reflips_iff {n : SwitchNo} (hcls : s.settings.coils[c].cls = .flipper)
    (hsrc : s.settings.coils[c].holdSource = n.val) : Reflips c s ↔
    s.switches.records[n].level = .closed ∧ s.coils[c].needsRelease = false ∧ MayPress s := by
  have hrecord : s.switches.records.toList.getD n.val SwitchRecord.reset = s.switches.records[n] := by
    simp [List.getD_eq_getElem?_getD]
  rw [Reflips, hsrc, hrecord, pressAllowed_iff]
  exact and_iff_right hcls

/-- R50, R55: a flipper kick, whole: D_own is as it was, since a FLIPPER draws from the reserve. -/
theorem flipperKick_eq (hcls : s.settings.coils[c].cls = .flipper) : flipperKick c s =
    channelMoved c (kickedFor s.coils[c] (if s.thermal.levels[c] = .hot
      then max 1 (s.settings.coils[c].kickTime / 2) else s.settings.coils[c].kickTime)) s.sched.committed s := by
  rw [flipperKick, moveChannel_eq _ _ _ (not_returnsToIdle (new := .kick) (by decide)), committedAfter_of_flipper hcls,
    offTimed_of_on rfl]
  rfl

end

/-! ### The entry to REST, and its end -/

section
variable {s : State} {c : CoilNo}

/-- R46, R47: a rest that ends with no quick re-flip, whole. -/
theorem restEnds_idle (hrest : s.coils[c].state = .rest) (h : ¬Reflips c s) : restEnds c s =
    scanOwed { s with coils := s.coils.set c (quiet s.coils[c] .idle s.coils[c].offTimer) } := by
  have hoff : commandedOn s.coils[c].state = false := by rw [hrest]; rfl
  rw [restEnds_of_not_reflips h, moveChannel_of_return _ _ _ ⟨rfl, .inl hrest⟩,
    offTimed_of_off hoff (by rw [hrest]; decide) rfl]
  rfl

theorem moveChannel_rested (hon : commandedOn s.coils[c].state = true) (time : Nat) :
    moveChannel c (s.coils[c].rested time) s =
      channelMoved c (turnedOff s.coils[c] s.pins.sense[c] .rest (some (startTimer (cs time))))
        (s.sched.committed - drawOf s.settings.coils[c] s.coils[c]) s := by
  rw [moveChannel_eq _ _ _ (not_returnsToIdle (new := .rest) (by decide)), committedAfter_of_off rfl,
    offTimed_of_turnedOff hon rfl]
  rfl

/-- R47, R49, R51, R54: an output that goes off takes its channel to REST, or, with no rest time and no quick re-flip,
straight on to IDLE. -/
theorem wentToRest_enterRest (hon : commandedOn s.coils[c].state = true) (h : ¬Reflips c s) :
    WentToRest c s.coils[c] (s.sched.committed - drawOf s.settings.coils[c] s.coils[c]) s (enterRest c s) := by
  unfold enterRest
  rw [moveChannel_rested hon]
  generalize hm : channelMoved c (turnedOff s.coils[c] s.pins.sense[c] .rest
    (some (startTimer (cs s.settings.coils[c].restTime)))) (s.sched.committed - drawOf s.settings.coils[c] s.coils[c]) s
    = m
  have hsettings : m.settings = s.settings := hm ▸ rfl
  refine ⟨fun hne => ?_, fun hzero => ?_⟩
  · dsimp only
    rw [hsettings, if_neg hne, hm]
  · have hcoil : m.coils[c] = turnedOff s.coils[c] s.pins.sense[c] .rest
        (some (startTimer (cs s.settings.coils[c].restTime))) := by rw [← hm, channelMoved_coil]
    have hno : ¬Reflips c m := by
      rw [Reflips, hcoil, ← hm]
      exact h
    dsimp only
    rw [hsettings, if_pos hzero, restEnds_idle (by rw [hcoil]; rfl) hno, hcoil, ← hm]
    simp [channelMoved, scanOwed, turnedOff, quiet]

/-- The record of a channel that went to rest. -/
theorem wentToRest_coil {ch : CoilChannel} {n : Nat} {t : State} (h : WentToRest c ch n s t) :
    t.coils[c] = turnedOff ch s.pins.sense[c] (if s.settings.coils[c].restTime = 0 then .idle else .rest)
      (if s.settings.coils[c].restTime = 0 then none else some (startTimer (cs s.settings.coils[c].restTime))) := by
  obtain ⟨hrest, hidle⟩ := h
  by_cases hzero : s.settings.coils[c].restTime = 0
  · rw [if_pos hzero, if_pos hzero, hidle hzero]
    exact channelMoved_coil s c _ n
  · rw [if_neg hzero, if_neg hzero, hrest hzero]
    exact channelMoved_coil s c _ n

/-- R51, R54: a FLIPPER goes to rest with its needs-release mark changed at that moment; D_own is as it was. -/
theorem wentToRest_releaseMarked (hcls : s.settings.coils[c].cls = .flipper)
    (hon : commandedOn s.coils[c].state = true) {on : Bool} (h : ¬Reflips c (releaseMarked s c on)) :
    WentToRest c { s.coils[c] with needsRelease := on } s.sched.committed s (enterRest c (releaseMarked s c on)) := by
  have hcoil := releaseMarked_coil s c on
  have hrest := wentToRest_enterRest (by rw [hcoil]; exact hon) h
  unfold WentToRest at hrest
  rw [drawOf_of_flipper (by exact hcls), hcoil, channelMoved_releaseMarked, channelMoved_releaseMarked] at hrest
  exact hrest

end

/-! ### The end of a kick -/

section
variable {s : State} {c : CoilNo}

theorem kickDue_iff : kickDue c s = true ↔ s.coils[c].state = .kick ∧ timerReached s.coils[c].kickTimer = true := by
  simp [kickDue]

/-- R48, R52: a channel goes from KICK to HOLD at duty `q`, whole. -/
theorem moveChannel_held (limit q : Nat) : moveChannel c (s.coils[c].held limit q) s =
    channelMoved c { s.coils[c] with
      state := .hold, kickTimer := none, restTimer := none, offTimer := none, duty := some q, pwmPhase := 0
      driven := q, holdTimer := if limit = 0 then none else some (startTimer (sec limit)) }
      (committedAfter c (s.coils[c].held limit q) s) s := by
  rw [moveChannel_eq _ _ _ (not_returnsToIdle (new := .hold) (by decide)), offTimed_of_on rfl]
  rfl

/-- R53, Table 3-4: of two duties that both apply, the smaller. -/
theorem flipperDuty_eq (q : Nat) (level : HeatLevel) (rail : RailState) :
    flipperDuty q level rail = smallestDuty q level rail := by
  unfold flipperDuty smallestDuty
  dsimp only
  split_ifs <;> omega

end

/-- Settles O38, by the coil's class: a PULSE coil goes to rest, a LATCH and a FLIPPER hold. -/
theorem kickExpiry : Obligations.KickExpiry := by
  intro s c hkick hreached
  refine ⟨kickEnds c s, congrArg _ (if_pos (kickDue_iff.2 ⟨hkick, hreached⟩)), fun hcls => ?_, fun hcls => ?_,
    fun hcls => ?_⟩
  · have hnot : s.settings.coils[c].cls ≠ .flipper := by rw [hcls]; decide
    have hrest := wentToRest_enterRest (by rw [hkick]; rfl) (not_reflips_of_not_flipper hnot)
    rw [drawOf_of_kick hnot hkick] at hrest
    simpa only [kickEnds, hcls] using hrest
  · simp only [kickEnds, hcls, moveChannel_held, committedAfter, drawOf_of_latch_hold (ch := s.coils[c].held _ _) hcls rfl,
      drawOf_of_kick (show s.settings.coils[c].cls ≠ .flipper by rw [hcls]; decide) hkick]
  · simp only [kickEnds, hcls, moveChannel_held, committedAfter_of_flipper hcls, flipperDuty_eq]

/-! ### The ends of a hold and of a rest -/

section
variable {s : State} {c : CoilNo}

theorem holdDue_iff : holdDue c s = true ↔ s.coils[c].state = .hold ∧ timerReached s.coils[c].holdTimer = true := by
  simp [holdDue]

theorem restDue_iff : restDue c s = true ↔ s.coils[c].state = .rest ∧ timerReached s.coils[c].restTimer = true := by
  simp [restDue]

/-- R49: the hold limit of a LATCH. -/
theorem wentToRest_holdEnds_of_latch (hhold : s.coils[c].state = .hold) (hcls : s.settings.coils[c].cls = .latch) :
    WentToRest c s.coils[c] (s.sched.committed -
      (s.settings.coils[c].draw * s.settings.coils[c].duty + 15) / 16) s (holdEnds c s) := by
  have hnot : s.settings.coils[c].cls ≠ .flipper := by rw [hcls]; decide
  have hrest := wentToRest_enterRest (by rw [hhold]; rfl) (not_reflips_of_not_flipper hnot)
  rw [drawOf_of_latch_hold hcls hhold] at hrest
  rwa [holdEnds, if_neg hnot]

/-- R54: the hold limit of a FLIPPER; the needs-release mark, set as the rest begins, keeps a rest of no time from
ending in a quick re-flip. -/
theorem wentToRest_holdEnds_of_flipper (hhold : s.coils[c].state = .hold) (hcls : s.settings.coils[c].cls = .flipper) :
    WentToRest c { s.coils[c] with needsRelease := true } s.sched.committed s (holdEnds c s) := by
  have hno : ¬Reflips c (releaseMarked s c true) := by
    rintro ⟨-, -, hclear, -⟩
    rw [releaseMarked_coil] at hclear
    cases hclear
  rw [holdEnds, if_pos hcls]
  exact wentToRest_releaseMarked hcls (by rw [hhold]; rfl) hno

end

/-- Settles O39, by the state that ends, HOLD or REST, and by what R55 asks of a quick re-flip. -/
theorem holdAndRestExpiry : Obligations.HoldAndRestExpiry := by
  intro s c n
  refine ⟨fun hhold hreached => ?_, fun hrest hreached => ?_⟩
  · exact ⟨holdEnds c s, congrArg _ (if_pos (holdDue_iff.2 ⟨hhold, hreached⟩)),
      wentToRest_holdEnds_of_latch hhold, fun hcls _ => wentToRest_holdEnds_of_flipper hhold hcls⟩
  · refine ⟨restEnds c s, congrArg _ (if_pos (restDue_iff.2 ⟨hrest, hreached⟩)),
      fun hcls => restEnds_idle hrest (not_reflips_of_not_flipper hcls), fun hcls hsrc => ⟨fun hflip => ?_,
      fun hno => restEnds_idle hrest (mt (reflips_iff hcls hsrc).1 hno)⟩⟩
    rw [restEnds_of_reflips ((reflips_iff hcls hsrc).2 hflip), flipperKick_eq hcls]

end Sys2Proof.Machine
end

section
/-! The edge of a hold source at its FLIPPER channels (R50, R51, R88): what a press and a release do to one channel,
and why no other destination of the edge, and no other channel's turn, touches it. -/

namespace Sys2Proof.Machine

/-! ### A press and a release at one channel -/

section
variable {s : State} {c : CoilNo}

/-- R50: a press that starts a kick. -/
theorem press_coil_of_pressed (hcls : s.settings.coils[c].cls = .flipper) (hidle : s.coils[c].state = .idle)
    (hmay : MayPress s) : (press c s).coils[c] = kickedFor s.coils[c] (if s.thermal.levels[c] = .hot
      then max 1 (s.settings.coils[c].kickTime / 2) else s.settings.coils[c].kickTime) := by
  rw [press, if_pos ⟨hidle, (pressAllowed_iff s).2 hmay⟩, flipperKick_eq hcls, channelMoved_coil]

/-- R50: a press that has no immediate effect. -/
theorem press_of_not_pressed (h : ¬(s.coils[c].state = .idle ∧ MayPress s)) : press c s = s :=
  if_neg fun hpress => h ⟨hpress.1, (pressAllowed_iff s).1 hpress.2⟩

theorem releaseFlipper_eq : releaseFlipper c s =
    if s.coils[c].state = .kick ∨ s.coils[c].state = .hold then enterRest c (releaseMarked s c false)
    else releaseMarked s c false := by
  have hstate : (releaseMarked s c false).coils[c].state = s.coils[c].state := by rw [releaseMarked_coil]
  rw [← hstate]
  rfl

/-- R51: the record of a FLIPPER channel after a release in KICK or HOLD.  Its hold source reads open, so a rest of no
time ends in IDLE. -/
theorem releaseFlipper_coil_of_driven {n : SwitchNo} (hcls : s.settings.coils[c].cls = .flipper)
    (hsrc : s.settings.coils[c].holdSource = n.val) (hopened : s.switches.records[n].level = .opened)
    (hdriven : s.coils[c].state = .kick ∨ s.coils[c].state = .hold) : (releaseFlipper c s).coils[c] =
    turnedOff { s.coils[c] with needsRelease := false } s.pins.sense[c]
      (if s.settings.coils[c].restTime = 0 then .idle else .rest)
      (if s.settings.coils[c].restTime = 0 then none else some (startTimer (cs s.settings.coils[c].restTime))) := by
  have hon : commandedOn s.coils[c].state = true := by rcases hdriven with hst | hst <;> rw [hst] <;> rfl
  have hno : ¬Reflips c (releaseMarked s c false) := fun hflip => by
    obtain ⟨hclosed, -, -⟩ := (reflips_iff (s := releaseMarked s c false) hcls hsrc).1 hflip
    exact absurd (hopened.symm.trans hclosed) (by decide)
  rw [releaseFlipper_eq, if_pos hdriven]
  exact wentToRest_coil (wentToRest_releaseMarked hcls hon hno)

/-- R51: in every other state a release clears the needs-release mark, and no more. -/
theorem releaseFlipper_coil_of_not_driven (h : ¬(s.coils[c].state = .kick ∨ s.coils[c].state = .hold)) :
    (releaseFlipper c s).coils[c] = { s.coils[c] with needsRelease := false } := by
  rw [releaseFlipper_eq, if_neg h, releaseMarked_coil]

end

/-! ### What happens at one channel leaves the others as they are -/

section
variable (s : State) {c d : CoilNo}

theorem restEnds_other (h : c ≠ d) : (restEnds d s).coils[c] = s.coils[c] := by
  by_cases hflip : Reflips d s
  · rw [restEnds_of_reflips hflip]
    exact moveChannel_other s d _ h
  · rw [restEnds_of_not_reflips hflip]
    exact moveChannel_other s d _ h

theorem enterRest_other (h : c ≠ d) : (enterRest d s).coils[c] = s.coils[c] := by
  have hmoved := moveChannel_other s d (s.coils[d].rested s.settings.coils[d].restTime) h
  unfold enterRest
  dsimp only
  split
  · rw [restEnds_other _ h, hmoved]
  · exact hmoved

theorem press_other (h : c ≠ d) : (press d s).coils[c] = s.coils[c] := by
  unfold press
  split
  · exact moveChannel_other s d _ h
  · rfl

theorem releaseMarked_other (on : Bool) (h : c ≠ d) : (releaseMarked s d on).coils[c] = s.coils[c] := by
  simp [releaseMarked, Fin.val_ne_of_ne h.symm]

theorem releaseFlipper_other (h : c ≠ d) : (releaseFlipper d s).coils[c] = s.coils[c] := by
  rw [releaseFlipper_eq]
  split
  · rw [enterRest_other _ h, releaseMarked_other s false h]
  · exact releaseMarked_other s false h

theorem press_framed (c : CoilNo) : Framed [.coils, .sched, .bus] s (press c s) := by
  unfold press
  split
  · exact flipperKick_framed c s
  · exact Framed.refl _ s

theorem releaseFlipper_framed (c : CoilNo) : Framed [.coils, .sched, .bus] s (releaseFlipper c s) := by
  have hmarked : Framed [.coils, .sched, .bus] s (releaseMarked s c false) := (onCoils_framed _ s).mono (by simp)
  rw [releaseFlipper_eq]
  split
  · exact hmarked.trans (enterRest_framed c _)
  · exact hmarked

end

/-! ### The turns of the FLIPPER channels -/

/-- Steps that each change one channel alone: in a run of them over distinct channels, the record of channel `c` is
what its own step makes of it, in a state that the steps before have framed. -/
theorem foldl_coil {f : State → CoilNo → State} {l : List Block} (hframe : ∀ s d, Framed l s (f s d)) {c : CoilNo}
    (hother : ∀ s d, c ≠ d → (f s d).coils[c] = s.coils[c]) {cs : List CoilNo} (hnodup : cs.Nodup) (hc : c ∈ cs)
    (s : State) : ∃ u, Framed l s u ∧ u.coils[c] = s.coils[c] ∧ (cs.foldl f s).coils[c] = (f u c).coils[c] := by
  induction cs generalizing s with
  | nil => cases hc
  | cons d ds ih =>
    obtain ⟨hd, hds⟩ := List.nodup_cons.1 hnodup
    by_cases hcd : c = d
    · subst hcd
      refine ⟨s, Framed.refl l s, rfl, ?_⟩
      refine List.foldlRecOn (motive := fun u => u.coils[c] = (f s c).coils[c]) ds f rfl fun u hu e he => ?_
      rw [hother u e fun hce => hd (hce ▸ he), hu]
    · obtain ⟨u, hu, hcoil, hlast⟩ := ih hds (List.mem_of_ne_of_mem hcd hc) (f s d)
      exact ⟨u, (hframe s d).trans hu, hcoil.trans (hother s d hcd), hlast⟩

/-- R88: the turn of one channel at an edge of switch `sw`. -/
def flipperTurn (sw : SwitchNo) (k : EdgeKind) (s : State) (c : CoilNo) : State :=
  if s.settings.coils[c].cls = .flipper ∧ s.settings.coils[c].holdSource = sw.val then
    match k with
    | .close => press c s
    | .opened => releaseFlipper c s
  else s

theorem flipperEdge_eq_foldl (sw : SwitchNo) (k : EdgeKind) (s : State) :
    flipperEdge sw k s = allCoils.foldl (flipperTurn sw k) s := by
  refine congrArg (fun f => allCoils.foldl f s) (funext₂ fun u c => ?_)
  cases k <;> rfl

/-- R85, R86: the kind of the edge that a qualify timer has timed. -/
def edgeTimed (closed : Bool) : EdgeKind := if closed then .close else .opened

theorem flipperTurn_of_source {sw : SwitchNo} {s : State} {c : CoilNo} (hcls : s.settings.coils[c].cls = .flipper)
    (hsrc : s.settings.coils[c].holdSource = sw.val) (closed : Bool) :
    flipperTurn sw (edgeTimed closed) s c = if closed then press c s else releaseFlipper c s := by
  rw [flipperTurn.eq_def, if_pos ⟨hcls, hsrc⟩]
  cases closed <;> rfl

section
variable (sw : SwitchNo) (k : EdgeKind) (s : State)

theorem flipperTurn_framed (c : CoilNo) : Framed [.coils, .sched, .bus] s (flipperTurn sw k s c) := by
  unfold flipperTurn
  split
  · cases k
    case close => exact press_framed s c
    case opened => exact releaseFlipper_framed s c
  · exact Framed.refl _ s

theorem flipperTurn_other {c d : CoilNo} (h : c ≠ d) : (flipperTurn sw k s d).coils[c] = s.coils[c] := by
  unfold flipperTurn
  split
  · cases k
    case close => exact press_other s h
    case opened => exact releaseFlipper_other s h
  · rfl

/-- R88: what an edge does to a channel is what the channel's own turn does. -/
theorem flipperEdge_coil (c : CoilNo) : ∃ u, Framed [.coils, .sched, .bus] s u ∧ u.coils[c] = s.coils[c] ∧
    (flipperEdge sw k s).coils[c] = (flipperTurn sw k u c).coils[c] := by
  rw [flipperEdge_eq_foldl]
  exact foldl_coil (flipperTurn_framed sw k) (fun u d => flipperTurn_other sw k u) (List.nodup_finRange 16)
    (List.mem_finRange c) s

theorem flipperEdge_framed : Framed [.coils, .sched, .bus] s (flipperEdge sw k s) := by
  rw [flipperEdge_eq_foldl]
  exact Framed.foldl _ allCoils s (flipperTurn_framed sw k)

theorem appendSwitch_framed : Framed [.bus, .service] s (appendSwitch sw k s) := by
  unfold appendSwitch
  split
  · split
    · exact ⟨rfl, fun b hb => by cases b <;> first | rfl | simp at hb⟩
    · exact ((count_framed .switchDrops s).trans (raise_framed .switchDrop _)).mono (by simp)
  · exact Framed.refl _ s

end

/-! ### Coil requests and the reflex walk never reach a FLIPPER channel -/

section
variable {s : State} {c : CoilNo}

/-- R9, R49: a request reaches the channel of its own coil alone. -/
theorem request_other {d : CoilNo} (a : CoilAction) (n : Nat) (o : Origin) (h : c ≠ d) :
    (request d a n o s).1.coils[c] = s.coils[c] := by
  rcases request_passes_or_counted s d a n o with hpass | ⟨k, hk⟩
  · have hpulse : (pulseRequest d n o s).1.coils = s.coils := (pulseRequest_framed d n o s).2 .coils (by simp)
    have hengage : (engageRequest d o s).1.coils = s.coils := (engageRequest_framed d o s).2 .coils (by simp)
    rw [request_of_passes s d a n o hpass]
    cases a
    case pulse => exact congrArg (·[c]) hpulse
    case engage => exact congrArg (·[c]) hengage
    case release =>
      have hremoved : (removeEntry d s).coils = s.coils := (removeEntry_framed d s).2 .coils (by simp)
      dsimp only
      unfold releaseRequest
      split
      · exact congrArg (·[c]) hremoved
      split
      · exact enterRest_other s h
      · rfl
  · rw [hk]
    rfl

/-- R3, check 1: no action suits a FLIPPER. -/
theorem request_coil_of_flipper (hcls : s.settings.coils[c].cls = .flipper) (d : CoilNo) (a : CoilAction) (n : Nat)
    (o : Origin) : (request d a n o s).1.coils[c] = s.coils[c] := by
  by_cases hcd : c = d
  · subst hcd
    rw [request_of_refused s c a n o (.inr (.inl (by rw [hcls]; rfl)))]
    rfl
  · exact request_other a n o hcd

theorem answerList_coil_of_flipper (hcls : s.settings.coils[c].cls = .flipper) (o : Origin) (l : List CoilRequest) :
    (answerList o l s).coils[c] = s.coils[c] := by
  suffices h : (answerList o l s).settings = s.settings ∧ (answerList o l s).coils[c] = s.coils[c] from h.2
  unfold answerList
  refine List.foldlRecOn (motive := fun u : State => u.settings = s.settings ∧ u.coils[c] = s.coils[c]) l _ ⟨rfl, rfl⟩
    fun u ⟨hset, hcoil⟩ r _ => ⟨?_, ?_⟩
  · have hsame := (request_framed r.coil r.action r.pulses o u).2 .settings (by simp)
    exact hsame.trans hset
  · rw [request_coil_of_flipper (by rw [hset]; exact hcls), hcoil]

theorem localEdge_coil_of_flipper (hcls : s.settings.coils[c].cls = .flipper) (src : Nat) (sw : SwitchNo)
    (k : EdgeKind) : (localEdge src sw k s).coils[c] = s.coils[c] := by
  have hframe := walk_framed src sw.val k s
  have hset : (walk src sw.val k s).1.settings = s.settings := hframe.2 .settings (by simp)
  have hcoils : (walk src sw.val k s).1.coils = s.coils := hframe.2 .coils (by simp)
  unfold localEdge
  split
  · rw [answerList_coil_of_flipper (by rw [hset]; exact hcls), hcoils]
  · rfl

end

/-! ### The edge of a hold source -/

/-- R86: the edge of switch `n` has been put in its record. -/
def edgeRecorded (n : SwitchNo) (s : State) : State := s.onSwitches fun u =>
  u.withRecord n (u.records[n].edged s.settings.switches[n] u.clock)

section
variable {s : State} {n : SwitchNo} {q : Qualify} {c : CoilNo}

theorem edgeDue_of_edgeFalls (h : EdgeFalls n q s) : edgeDue n s = true := by
  obtain ⟨htakes, hsettled, hq, hreached⟩ := h
  have htimed : qualifyReached s.switches.records[n] = true := by
    rw [qualifyReached, hq]
    exact decide_eq_true hreached
  rw [edgeDue, htakes, htimed, decide_eq_true hsettled]
  rfl

/-- R86, R88: a due edge is taken. -/
theorem exec_switchEdge_of_due (h : edgeDue n s = true) : exec (.switchEdge n) s = .next (takeEdge n s) := by
  have hrow : execSwitchEdge n s = .next (takeEdge n s) := by rw [execSwitchEdge, if_pos h]
  exact hrow

theorem edgeRecorded_level (hq : s.switches.records[n].qualify = some q) :
    (edgeRecorded n s).switches.records[n].level = levelOf q.closed := by
  have hclosed : qualifyClosed s.switches.records[n] = q.closed := by rw [qualifyClosed, hq]
  rw [← hclosed]
  simp [edgeRecorded, SwitchUnit.withRecord, SwitchRecord.edged]

theorem takeEdge_eq (hq : s.switches.records[n].qualify = some q) : takeEdge n s =
    localEdge (ownNumber s) n (edgeTimed q.closed)
      (appendSwitch n (edgeTimed q.closed)
        (flipperEdge n (edgeTimed q.closed) (edgeRecorded n s))) := by
  have hclosed : qualifyClosed s.switches.records[n] = q.closed := by rw [qualifyClosed, hq]
  rw [← hclosed]
  rfl

/-- R88: of all that an edge does, what reaches a FLIPPER channel of its switch is the channel's own press or release,
in a state that agrees with the state at the edge in all that the press or the release reads. -/
theorem takeEdge_coil_of_flipper (hq : s.switches.records[n].qualify = some q)
    (hcls : s.settings.coils[c].cls = .flipper) (hsrc : s.settings.coils[c].holdSource = n.val) :
    ∃ u, Framed [.coils, .sched, .bus] (edgeRecorded n s) u ∧ u.coils[c] = s.coils[c] ∧
      (takeEdge n s).coils[c] = (if q.closed then press c u else releaseFlipper c u).coils[c] := by
  obtain ⟨u, hu, hcoil, hturn⟩ := flipperEdge_coil n (edgeTimed q.closed) (edgeRecorded n s) c
  have hset : u.settings = s.settings := hu.2 .settings (by simp)
  refine ⟨u, hu, hcoil, ?_⟩
  have hflip := flipperEdge_framed n (edgeTimed q.closed) (edgeRecorded n s)
  have happend := appendSwitch_framed n (edgeTimed q.closed)
    (flipperEdge n (edgeTimed q.closed) (edgeRecorded n s))
  have hsettings := (happend.2 .settings (by simp)).trans (hflip.2 .settings (by simp))
  have hcoils := happend.2 .coils (by simp)
  rw [takeEdge_eq hq, localEdge_coil_of_flipper (by rw [hsettings]; exact hcls), hcoils, hturn,
    flipperTurn_of_source (by rw [hset]; exact hcls) (by rw [hset]; exact hsrc)]

end

/-- R50: the conditions on a press are no part of what the channels' turns change. -/
theorem mayPress_of_framed {s u : State} (h : Framed [.coils, .sched, .bus] s u) : MayPress u ↔ MayPress s := by
  have hfault : u.faultLine = s.faultLine := h.2 .faultLine (by simp)
  have hrail : u.rail = s.rail := h.2 .rail (by simp)
  have hlink : u.link = s.link := h.2 .link (by simp)
  rw [MayPress, hfault, hrail, hlink]

/-- Settles O28: the channel's own press or release is all that reaches it (`takeEdge_coil_of_flipper`); then by the
kind of the edge and the state of the channel. -/
theorem flipperFollowsButton : Obligations.FlipperFollowsButton := by
  intro s n q c hfalls hcls hsrc
  refine ⟨takeEdge n s, exec_switchEdge_of_due (edgeDue_of_edgeFalls hfalls), ?_⟩
  obtain ⟨-, -, hq, -⟩ := hfalls
  obtain ⟨u, hu, hcoil, hlast⟩ := takeEdge_coil_of_flipper hq hcls hsrc
  have hset : u.settings = s.settings := hu.2 .settings (by simp)
  have hthermal : u.thermal = s.thermal := hu.2 .thermal (by simp)
  have hmay : MayPress u ↔ MayPress s := mayPress_of_framed (s := edgeRecorded n s) hu
  have hdriven (hopened : q.closed = false) (hst : s.coils[c].state = .kick ∨ s.coils[c].state = .hold) :
      (takeEdge n s).coils[c] = turnedOff { s.coils[c] with needsRelease := false } u.pins.sense[c]
        (if s.settings.coils[c].restTime = 0 then .idle else .rest)
        (if s.settings.coils[c].restTime = 0 then none else some (startTimer (cs s.settings.coils[c].restTime))) := by
    have hswitches : u.switches = (edgeRecorded n s).switches := hu.2 .switches (by simp)
    have hlevel : u.switches.records[n].level = .opened := by
      rw [hswitches, edgeRecorded_level hq, hopened]
      rfl
    rw [hlast, hopened, if_neg (by decide), releaseFlipper_coil_of_driven (by rw [hset]; exact hcls)
      (by rw [hset]; exact hsrc) hlevel (by rw [hcoil]; exact hst), hcoil, hset]
  refine ⟨fun hclosed hidle hpress => ?_, fun hclosed hnot => ?_, fun hopened => ?_, fun hopened hst => ?_⟩
  · rw [hlast, hclosed, if_pos rfl, press_coil_of_pressed (by rw [hset]; exact hcls) (by rw [hcoil]; exact hidle)
      (hmay.2 hpress), hset, hthermal]
    exact ⟨rfl, rfl, rfl⟩
  · rw [hlast, hclosed, if_pos rfl, press_of_not_pressed (by rw [hcoil, hmay]; exact hnot), hcoil]
  · by_cases hst : s.coils[c].state = .kick ∨ s.coils[c].state = .hold
    · rw [hdriven hopened hst, if_pos hst]
      exact ⟨rfl, rfl⟩
    · rw [hlast, hopened, if_neg (by decide), releaseFlipper_coil_of_not_driven (by rw [hcoil]; exact hst), hcoil,
        if_neg hst]
      exact ⟨rfl, rfl⟩
  · rw [hdriven hopened hst]
    exact ⟨rfl, rfl, rfl, rfl⟩

end Sys2Proof.Machine
end

section
/-! Lamp channels: a lamp's new mode and flash record, and the drive stage and the lamp start queue that follow its
demand (R108 to R111); then the half expiry of a flash (R107). -/

namespace Sys2Proof.Machine

/-! ### One lamp's mode and flash record replaced -/

theorem demandLit_eq_demands (ch : LampChannel) : demandLit ch = demands ch.mode ch.flash := by
  unfold demandLit demands
  cases ch.mode with
  | dark | lit => simp
  | flash => cases ch.flash <;> simp

section
variable (cfg : Vector LampSettings 24) (new : LampNo → LampMode × Option Flash) (u : LampUnit)

theorem lampsGiven_lamp (ns : List LampNo) (m : LampNo) : (lampsGiven cfg ns new u).lamps[m] =
    if m ∈ ns then lampGiven cfg[m] u.lamps[m] (new m).1 (new m).2 else u.lamps[m] := by
  simp [lampsGiven]

theorem lampsGiven_phase (ns : List LampNo) : (lampsGiven cfg ns new u).phase = u.phase := by
  unfold lampsGiven
  rfl

theorem lampsGiven_singleton_lamps (n : LampNo) : (lampsGiven cfg [n] new u).lamps =
    u.lamps.set n (lampGiven cfg[n] u.lamps[n] (new n).1 (new n).2) := by
  refine Vector.ext fun i hi => ?_
  rw [Vector.getElem_set]
  refine (lampsGiven_lamp cfg new u [n] ⟨i, hi⟩).trans ?_
  by_cases h : n.val = i
  · subst h
    rw [if_pos (by simp), if_pos rfl]
  · rw [if_neg (by simpa [Fin.ext_iff] using Ne.symm h), if_neg h]
    rfl

theorem filter_unless_singleton (n : LampNo) (P : LampNo → Bool) (q : List LampNo) :
    (q.filter fun m => !(decide (m ∈ [n]) && P m)) = if P n = true then q.filter fun m => m ≠ n else q := by
  split
  next hP =>
    refine List.filter_congr fun m _ => ?_
    by_cases hm : m = n <;> simp [hm, hP]
  next hP =>
    refine List.filter_eq_self.2 fun m _ => ?_
    by_cases hm : m = n <;> simp [hm, hP]

/-- R110, R111: of one lamp, the queue drops it as it goes dark and takes it at the tail as it begins to wait. -/
theorem lampsGiven_singleton (n : LampNo) : lampsGiven cfg [n] new u =
    { u with
      lamps := u.lamps.set n (lampGiven cfg[n] u.lamps[n] (new n).1 (new n).2)
      queue := if cfg[n].incandescent = true then
          if demands (new n).1 (new n).2 = true then
            if u.lamps[n].stage = .dark then u.queue ++ [n] else u.queue
          else u.queue.filter fun m => m ≠ n
        else u.queue } := by
  rw [← lampsGiven_singleton_lamps]
  unfold lampsGiven
  dsimp only
  congr 1
  rw [filter_unless_singleton n, List.filter_singleton]
  cases hinc : cfg[n].incandescent
  · simp
  · cases hlit : demands (new n).1 (new n).2
    · simp
    · by_cases hdark : u.lamps[n].stage = .dark
      · rw [decide_eq_true hdark, if_pos hdark]
        simp
      · rw [decide_eq_false hdark, if_neg hdark]
        simp

end

/-! ### The drive follows the demand -/

/-- R108 to R111: by the lamp's incandescent flag, its demand, and whether it is DARK. -/
theorem followDemand_lamps (n : LampNo) (s : State) : (followDemand n s).lamps =
    lampsGiven s.settings.lamps [n] (fun _ => (s.lamps.lamps[n].mode, s.lamps.lamps[n].flash)) s.lamps := by
  rw [lampsGiven_singleton, ← demandLit_eq_demands]
  unfold followDemand lampGiven
  rw [← demandLit_eq_demands]
  dsimp only
  generalize hch : s.lamps.lamps[n] = ch
  generalize s.settings.lamps[n] = cfg
  have hself : s.lamps.lamps.set n ch = s.lamps.lamps := by
    rw [← hch]
    exact Vector.set_getElem_self ..
  split
  next hinc =>
    split
    next hlit =>
      split
      · simp [hinc, hlit]
      · simp [hinc, hlit, hself]
    next hlit => simp [hinc, hlit]
  next hinc => cases hlit : demandLit ch <;> simp [hinc]

section
variable {s : State} {n : LampNo} {g : LampChannel → LampChannel}

theorem setLampChannel_framed : Framed [.lamps] s (setLampChannel n g s) :=
  (onLamps_framed _ s).trans (followDemand_framed n _)

/-- R108 to R111: a lamp of which only the mode and the flash record are replaced, with its drive following. -/
theorem setLampChannel_lamps {m : LampMode} {f : Option Flash}
    (hg : g s.lamps.lamps[n] = { s.lamps.lamps[n] with mode := m, flash := f }) :
    (setLampChannel n g s).lamps = lampsGiven s.settings.lamps [n] (fun _ => (m, f)) s.lamps := by
  have hnew : (s.lamps.lamps.set n (g s.lamps.lamps[n]))[n] = { s.lamps.lamps[n] with mode := m, flash := f } :=
    (Vector.getElem_set_self _).trans hg
  rw [setLampChannel, followDemand_lamps, lampsGiven_singleton, lampsGiven_singleton]
  simp only [State.onLamps_lamps, State.onLamps_settings, hnew, lampGiven, Vector.set_set]

theorem setLampChannel_lamp {m : LampMode} {f : Option Flash}
    (hg : g s.lamps.lamps[n] = { s.lamps.lamps[n] with mode := m, flash := f }) (k : LampNo) :
    (setLampChannel n g s).lamps.lamps[k] =
      if k = n then lampGiven s.settings.lamps[k] s.lamps.lamps[k] m f else s.lamps.lamps[k] := by
  rw [setLampChannel_lamps hg, lampsGiven_lamp]
  simp only [List.mem_singleton]

end

/-! ### The half expiry of a flash -/

section
variable {s : State} {n : LampNo} {f : Flash} (ch : LampChannel)

/-- R107: only the mode and the flash record of the channel are replaced. -/
theorem halfExpired_eq : halfExpired f ch =
    { ch with mode := (halfExpired f ch).mode, flash := (halfExpired f ch).flash } := by
  unfold halfExpired
  split
  · rfl
  · split
    · rfl
    · split <;> rfl

theorem halfExpired_of_lit (hlit : f.halfLit = true) : halfExpired f ch =
    { ch with flash := some { f with halfLit := false, timer := startTimer (cs f.halfPeriod) } } :=
  if_pos hlit

theorem halfExpired_of_forever (hdark : f.halfLit = false) (hcycles : f.cycles = none) : halfExpired f ch =
    { ch with flash := some { f with halfLit := true, timer := startTimer (cs f.halfPeriod) } } := by
  simp [halfExpired, hdark, hcycles]

theorem halfExpired_of_cycles_left {k : Nat} (hdark : f.halfLit = false) (hcycles : f.cycles = some k) (hk : 2 ≤ k) :
    halfExpired f ch = { ch with flash := some { f with cycles := some (k - 1), halfLit := true
                                                        timer := startTimer (cs f.halfPeriod) } } := by
  simp [halfExpired, hdark, hcycles, hk]

theorem halfExpired_of_last_cycle (hdark : f.halfLit = false) (hcycles : f.cycles = some 1) :
    halfExpired f ch = { ch with mode := if f.finalOn then .lit else .dark, flash := none } := by
  simp [halfExpired, hdark, hcycles]

theorem halfDue_of_reached (hmode : s.lamps.lamps[n].mode = .flash) (hflash : s.lamps.lamps[n].flash = some f)
    (hreached : f.timer.limit ≤ f.timer.elapsed) : halfDue n s = true := by
  rw [halfDue, hmode, hflash]
  exact decide_eq_true hreached

theorem exec_lampHalfExpiry_of_due (hflash : s.lamps.lamps[n].flash = some f) (hdue : halfDue n s = true) :
    exec (.lampHalfExpiry n) s = .next (setLampChannel n (halfExpired f) s) := by
  have hhalf : lampHalf n s = setLampChannel n (halfExpired f) s := by
    simp only [lampHalf, hflash, hdue, if_true]
  exact congrArg _ hhalf

end

/-- Settles O43: the lamp takes the mode and flash record of `halfExpired`, and its drive and the queue follow as for
any new mode and record (`setLampChannel_lamps`); then by the half that expires and the cycles that remain. -/
theorem flashHalves : Obligations.FlashHalves := by
  intro s n f hmode hflash hreached
  refine ⟨setLampChannel n (halfExpired f) s,
    exec_lampHalfExpiry_of_due hflash (halfDue_of_reached hmode hflash hreached), ?_⟩
  have hreplaced := halfExpired_eq (f := f) s.lamps.lamps[n]
  have hlamps := setLampChannel_lamps hreplaced
  have hown := (setLampChannel_lamp hreplaced n).trans (if_pos rfl)
  have hchMode := congrArg LampChannel.mode hown
  have hchFlash := congrArg LampChannel.flash hown
  dsimp only [lampGiven] at hchMode hchFlash ⊢
  rw [hchMode, hchFlash]
  refine ⟨fun hlit => ?_, fun hdark hforever => ?_, fun k hdark hcycles hk => ?_, fun hdark hlast => ?_, hlamps,
    fun m hm => (setLampChannel_lamp hreplaced m).trans (if_neg hm), ?_, setLampChannel_framed⟩
  · rw [halfExpired_of_lit _ hlit]
    exact ⟨hmode, rfl⟩
  · rw [halfExpired_of_forever _ hdark hforever]
    exact ⟨hmode, rfl⟩
  · rw [halfExpired_of_cycles_left _ hdark hcycles hk]
    exact ⟨hmode, rfl⟩
  · rw [halfExpired_of_last_cycle _ hdark hlast]
    exact ⟨rfl, rfl⟩
  · rw [hlamps, lampsGiven_phase]

end Sys2Proof.Machine
end

section
/-! The back-off of a transmit series (R130, R132): the slots of a station after its failed attempts, and that stations
which fail together draw apart. -/

namespace Sys2Proof.Machine

@[simp] theorem backOff_zero (own : Nat) : backOff own 0 = 0 := rfl

section
variable {k : Nat} (hk : k ≠ 0)
include hk

theorem backOff_of_failed (own : Nat) : backOff own k = (own * (2 * k + 1) + k) % 32 := if_neg hk

theorem backOff_lt (own : Nat) : backOff own k < 32 := by
  rw [backOff_of_failed hk]
  exact Nat.mod_lt _ (by decide)

/-- R132: the multiplier 2k + 1 is odd, so it cancels modulo 32. -/
theorem backOff_inj {a b : Nat} (ha : a < 32) (hb : b < 32) (h : backOff a k = backOff b k) : a = b := by
  rw [backOff_of_failed hk, backOff_of_failed hk] at h
  have hproducts : a * (2 * k + 1) ≡ b * (2 * k + 1) [MOD 32] := Nat.ModEq.add_right_cancel' k h
  have hodd : Nat.Coprime (2 ^ 5) (2 * k + 1) := (Nat.coprime_two_left.2 (odd_two_mul_add_one k)).pow_left 5
  exact (hproducts.cancel_right_of_coprime hodd).eq_of_lt_of_lt ha hb

end

/-- Settles O18: the formula and its range are those of `backOff_of_failed` and `backOff_lt`; two station numbers with
one count of failed attempts and one back-off are equal (`backOff_inj`). -/
theorem backOffSlots : Obligations.BackOffSlots := by
  refine ⟨backOff_zero, fun k hk => ?_⟩
  have hfailed : k.val ≠ 0 := Fin.val_ne_zero_iff.2 hk
  refine ⟨fun a => ⟨backOff_of_failed hfailed a, Nat.le_of_lt_succ (backOff_lt hfailed a)⟩, ?_⟩
  intro a b _ _ hab hsame
  exact hab (Fin.ext (backOff_inj hfailed a.isLt b.isLt hsame))

end Sys2Proof.Machine
end

section
/-! The external end of every channel (R56): each record, and D_own, which falls by what the channels drew; then a
change of rail state with all that it hands on (R152 to R155), stage by stage, and the readings and timers that bring
one; then the table fault line with its entry to SAFE (R157 to R159), and the status lamp (R172). -/

namespace Sys2Proof.Machine

/-! ### Frames -/

theorem onPins_framed (f : Pins → Pins) (s : State) : Framed [.pins] s (s.onPins f) :=
  ⟨rfl, fun b hb => by cases b <;> first | rfl | simp at hb⟩

theorem onRail_framed (f : RailMonitor → RailMonitor) (s : State) : Framed [.rail] s (s.onRail f) :=
  ⟨rfl, fun b hb => by cases b <;> first | rfl | simp at hb⟩

/-! ### Marks of the draw slot, one after another -/

theorem markedIf_false (s : State) : markedIf false s = s.bus := by
  rw [markedIf, Bool.false_and, Bool.or_false]

/-- R127, R128: of two marks in one link state, either sets the pending mark. -/
theorem markedIf_markedIf {s t : State} {a : Bool} (b : Bool) (hbus : t.bus = markedIf a s) (hlink : t.link = s.link) :
    markedIf b t = markedIf (a || b) s := by
  have hmay : mayMark t = mayMark s := by simp only [mayMark, hlink]
  simp only [markedIf, hbus, hmay, Bool.and_or_distrib_right, Bool.or_assoc]

/-! ### A change of D_own -/

/-- R23, R29, R39: channels have changed and D_own has become `n`, with the mark that follows; a scan may be owed. -/
structure CommittedBecame (n : Nat) (s t : State) : Prop where
  framed : Framed [.coils, .sched, .bus] s t
  sched : t.sched = { s.sched with committed := n, scanDue := t.sched.scanDue }
  bus : t.bus = markedIf (decide (n ≠ s.sched.committed)) s

section
variable {m n : Nat} {s t u : State}

theorem CommittedBecame.refl (s : State) : CommittedBecame s.sched.committed s s where
  framed := Framed.refl _ s
  sched := rfl
  bus := by rw [decide_eq_false (not_not_intro rfl), markedIf_false]

/-- Of two falls of D_own, the draw slot is marked if one of them is a change. -/
theorem CommittedBecame.trans (h : CommittedBecame m s t) (k : CommittedBecame n t u) (hnm : n ≤ m)
    (hm : m ≤ s.sched.committed) : CommittedBecame n s u where
  framed := h.framed.trans k.framed
  sched := by rw [k.sched, h.sched]
  bus := by
    have hcommitted : t.sched.committed = m := by rw [h.sched]
    have hchanged : (decide (m ≠ s.sched.committed) || decide (n ≠ m)) = decide (n ≠ s.sched.committed) := by
      rw [← Bool.decide_or]
      exact decide_eq_decide.2 (by omega)
    rw [k.bus, hcommitted, markedIf_markedIf _ h.bus (h.framed.2 .link (by simp)), hchanged]

/-- R23: a channel that goes off takes its draw from D_own. -/
theorem committedBecame_moveChannel (c : CoilNo) {new : CoilChannel} (hoff : commandedOn new.state = false) :
    CommittedBecame (s.sched.committed - drawOf s.settings.coils[c] s.coils[c]) s (moveChannel c new s) := by
  rw [← committedAfter_of_off hoff]
  have heq := moveChannel_eq_noteDraw s c new
  refine ⟨moveChannel_framed c new s, ?_, congrArg State.bus heq⟩
  rw [heq, moveRaw_eq]

end

/-! ### The external end of one channel -/

section
variable (c : CoilNo) (s : State)

theorem endChannel_of_running (h : running s.coils[c].state = true) :
    endChannel c s = moveChannel c (s.coils[c].stopped .idle) s :=
  if_pos (by simpa [running, commandedOn, or_assoc] using h)

theorem endChannel_of_not_running (h : running s.coils[c].state = false) : endChannel c s = s :=
  if_neg (by simpa [running, commandedOn, and_assoc] using h)

/-- R56, R63: from KICK and HOLD the output is turned off; from REST it stays off. -/
theorem endChannel_coil : (endChannel c s).coils[c] = externallyEnded s.coils[c] s.pins.sense[c] := by
  unfold externallyEnded
  cases hon : commandedOn s.coils[c].state
  case true =>
    rw [endChannel_of_running c s (by rw [running, hon]; rfl), moveChannel_coil, if_pos rfl]
    exact offTimed_of_turnedOff hon rfl
  case false =>
    rw [if_neg Bool.false_ne_true]
    split
    next hrest =>
      rw [endChannel_of_running c s (by rw [hrest]; rfl), moveChannel_coil]
      exact offTimed_of_off hon (by rw [hrest]; decide) rfl
    next hrest => rw [endChannel_of_not_running c s (by rw [running, hon, decide_eq_false hrest]; rfl)]

theorem endChannel_other {d : CoilNo} (h : c ≠ d) : (endChannel d s).coils[c] = s.coils[c] := by
  unfold endChannel
  split
  · exact moveChannel_other s d _ h
  · rfl

theorem committedBecame_endChannel :
    CommittedBecame (s.sched.committed - drawOf s.settings.coils[c] s.coils[c]) s (endChannel c s) := by
  cases hrun : running s.coils[c].state
  case true =>
    rw [endChannel_of_running c s hrun]
    exact committedBecame_moveChannel c rfl
  case false =>
    have hoff : commandedOn s.coils[c].state = false := (Bool.or_eq_false_iff.1 hrun).1
    rw [endChannel_of_not_running c s hrun, drawOf_of_off hoff]
    exact CommittedBecame.refl s

end

/-! ### The external end of every channel -/

/-- R23, R56: the draws of distinct channels leave D_own one after another. -/
theorem committedBecame_foldl {cs : List CoilNo} (hnodup : cs.Nodup) (s : State) :
    CommittedBecame (s.sched.committed - (cs.map fun c => drawOf s.settings.coils[c] s.coils[c]).sum) s
      (cs.foldl (fun s c => endChannel c s) s) := by
  induction cs generalizing s with
  | nil => exact CommittedBecame.refl s
  | cons d ds ih =>
    obtain ⟨hd, hds⟩ := List.nodup_cons.1 hnodup
    have hfirst := committedBecame_endChannel d s
    have hset : (endChannel d s).settings = s.settings := hfirst.framed.2 .settings (by simp)
    have hcommitted : (endChannel d s).sched.committed = s.sched.committed - drawOf s.settings.coils[d] s.coils[d] := by
      rw [hfirst.sched]
    have hdraws : (ds.map fun c => drawOf (endChannel d s).settings.coils[c] (endChannel d s).coils[c]) =
        ds.map fun c => drawOf s.settings.coils[c] s.coils[c] :=
      List.map_congr_left fun c hc => by rw [hset, endChannel_other c s (ne_of_mem_of_not_mem hc hd)]
    have hrest := ih hds (endChannel d s)
    rw [hcommitted, hdraws] at hrest
    rw [List.map_cons, List.sum_cons, ← Nat.sub_sub]
    exact hfirst.trans hrest (Nat.sub_le _ _) (Nat.sub_le _ _)

section
variable (s : State)

theorem committedBecame_endAllChannels : CommittedBecame (committedEnded s) s (endAllChannels s) :=
  committedBecame_foldl (List.nodup_finRange 16) s

/-- R56: every channel ends at once. -/
theorem endAllChannels_coil (c : CoilNo) :
    (endAllChannels s).coils[c] = externallyEnded s.coils[c] s.pins.sense[c] := by
  obtain ⟨u, hu, hcoil, hlast⟩ := foldl_coil (f := fun s c => endChannel c s) (fun s d => endChannel_framed d s)
    (fun s d h => endChannel_other c s h) (List.nodup_finRange 16) (List.mem_finRange c) s
  have hpins : u.pins = s.pins := hu.2 .pins (by simp)
  rw [endAllChannels, allCoils, hlast, endChannel_coil, hcoil, hpins]

end

theorem committedEnded_congr {s t : State} (hsettings : t.settings = s.settings) (hcoils : t.coils = s.coils)
    (hcommitted : t.sched.committed = s.sched.committed) : committedEnded t = committedEnded s := by
  rw [committedEnded, hsettings, hcoils, hcommitted, committedEnded]

/-! ### Every FLIPPER channel in HOLD chooses its duty again -/

section
variable (c : CoilNo) (s : State)

/-- R53: a channel's record after its duty has been chosen again. -/
theorem rechooseDuty_coil : (rechooseDuty c s).coils[c] = { s.coils[c] with
    duty := if s.settings.coils[c].cls = .flipper ∧ s.coils[c].state = .hold
      then some (smallestDuty s.settings.coils[c].duty s.thermal.levels[c] s.rail.state) else s.coils[c].duty } := by
  unfold rechooseDuty
  split
  · rw [flipperDuty_eq]
    exact Vector.getElem_set_self _
  · rfl

theorem rechooseDuty_other {d : CoilNo} (h : c ≠ d) : (rechooseDuty d s).coils[c] = s.coils[c] := by
  unfold rechooseDuty
  split
  · simp [Fin.val_ne_of_ne h.symm]
  · rfl

theorem rechooseAll_coil : (rechooseAll s).coils[c] = (rechooseDuty c s).coils[c] := by
  obtain ⟨u, hu, hcoil, hlast⟩ := foldl_coil (f := fun s c => rechooseDuty c s) (fun s d => rechooseDuty_framed d s)
    (fun s d h => rechooseDuty_other c s h) (List.nodup_finRange 16) (List.mem_finRange c) s
  have hset : u.settings = s.settings := hu.2 .settings (by simp)
  have hthermal : u.thermal = s.thermal := hu.2 .thermal (by simp)
  have hrail : u.rail = s.rail := hu.2 .rail (by simp)
  rw [rechooseAll, allCoils, hlast, rechooseDuty_coil, rechooseDuty_coil, hcoil, hset, hthermal, hrail]

end

/-! ### The announce withdrawn, and the queue flushed -/

section
variable {s : State}

theorem queueWithdrawn_of_none (h : s.sched.announce = none) : queueWithdrawn s = s.sched.queue := by
  simp [queueWithdrawn, h]

theorem queueWithdrawn_of_some {a : Announce} (h : s.sched.announce = some a) :
    queueWithdrawn s = mapEntry a.coil (fun e => { e with phase := .queued }) s.sched.queue := by
  simp only [queueWithdrawn, mapEntry, h, Option.map_some, Option.some_inj, eq_comm]

end

section
variable (s : State)

/-- R37: an ANNOUNCING entry, if there is one, returns to QUEUED; a scan may be owed. -/
theorem withdraw_sched : (withdraw s).sched = { s.sched with
    queue := queueWithdrawn s, announce := none, scanDue := (withdraw s).sched.scanDue } := by
  cases ha : s.sched.announce with
  | none =>
    have hsame : withdraw s = s := by simp only [withdraw, ha]
    rw [hsame, queueWithdrawn_of_none ha, ← ha]
  | some a => rw [withdraw_eq s ha, queueWithdrawn_of_some ha]

theorem withdraw_bus : ∃ on, (withdraw s).bus = markedIf on s := by
  cases ha : s.sched.announce with
  | none => exact ⟨false, by simp only [withdraw, ha, markedIf_false]⟩
  | some a => exact ⟨_, by rw [withdraw_eq s ha]⟩

/-- R16: every entry leaves; the draw slot is marked if the reported draw changes. -/
theorem flushQueue_eq : flushQueue s = { s with
    sched := { s.sched with queue := [], announce := none, scanDue := true }
    bus := markedIf (decide (s.sched.committed ≠ reportedDraw s)) s } := by
  rw [flushQueue, noteDraw_eq]
  rfl

end

/-! ### A change of rail state, stage by stage -/

/-- R152 to R155: the monitor enters its new state, and reports a drop or a sag. -/
def monitorMoved (new : RailState) (s : State) : State :=
  railReport s.rail.state new (s.onRail fun _ => railEntry new s.pins.rail s.settings.vOn s.settings.vSag)

/-- R37: a rail that leaves UP withdraws the announce. -/
def announceStopped (old new : RailState) (u : State) : State := if old = .up ∧ new ≠ .up then withdraw u else u

/-- R56: a rail that goes DOWN ends every channel. -/
def drivesEnded (new : RailState) (u : State) : State := if new = .down then endAllChannels u else u

/-- R53, R58: the FLIPPER channels in HOLD follow a rail that enters or leaves SAG. -/
def dutiesFollowed (old new : RailState) (u : State) : State := if old = .sag ↔ new ≠ .sag then rechooseAll u else u

/-- R39: a rail that enters or leaves UP marks the draw slot. -/
def drawMarked (old new : RailState) (u : State) : State := if old = .up ↔ new = .up then u else markDraw u

theorem changeRail_eq (new : RailState) (s : State) : changeRail new s =
    promptScan (drawMarked s.rail.state new (dutiesFollowed s.rail.state new (drivesEnded new
      (announceStopped s.rail.state new (monitorMoved new s))))) := by
  have hleaves : RailLeavesUp s.rail.state new ↔ s.rail.state = .up ∧ new ≠ .up := by simp [isUp]
  have hsag : isSag s.rail.state = isSag new ↔ ¬(s.rail.state = .sag ↔ new ≠ .sag) := by
    simp only [isSag, decide_eq_decide]
    tauto
  have hup : isUp s.rail.state = isUp new ↔ (s.rail.state = .up ↔ new = .up) := by simp only [isUp, decide_eq_decide]
  simp only [changeRail, hleaves, hsag, hup, ite_not]
  rfl

section
variable (old new : RailState) (s u : State) (c : CoilNo)

theorem railReport_framed : Framed [.service] u (railReport old new u) := by
  unfold railReport
  split
  · exact (raise_framed _ u).trans (count_framed _ _)
  · exact (raise_framed _ u).trans (count_framed _ _)
  · exact (raise_framed _ u).trans (count_framed _ _)
  · exact Framed.refl _ u

/-- R155: RAIL_DROP where the rail goes DOWN from UP or SAG, RAIL_SAG where it goes from UP to SAG. -/
theorem railReport_service : (railReport old new u).service =
    if new = .down ∧ (old = .up ∨ old = .sag) then
      { events := u.service.events ||| 0x400#16, raised := u.service.raised ||| 0x400#16
        counters := counted 12 u.service.counters }
    else if new = .sag ∧ old = .up then
      { events := u.service.events ||| 0x800#16, raised := u.service.raised ||| 0x800#16
        counters := counted 13 u.service.counters }
    else u.service := by
  cases old <;> cases new <;> rfl

theorem monitorMoved_framed : Framed [.rail, .service] s (monitorMoved new s) :=
  ((onRail_framed _ s).mono (by simp)).trans ((railReport_framed _ new _).mono (by simp))

theorem monitorMoved_rail : (monitorMoved new s).rail = railEntry new s.pins.rail s.settings.vOn s.settings.vSag :=
  (railReport_framed _ new _).2 .rail (by simp)

theorem announceStopped_framed : Framed [.sched, .bus] u (announceStopped old new u) := by
  unfold announceStopped
  split
  · exact withdraw_framed u
  · exact Framed.refl _ u

theorem announceStopped_sched : (announceStopped old new u).sched = { u.sched with
    queue := if old = .up ∧ new ≠ .up then queueWithdrawn u else u.sched.queue
    announce := if old = .up ∧ new ≠ .up then none else u.sched.announce
    scanDue := (announceStopped old new u).sched.scanDue } := by
  unfold announceStopped
  split
  · exact withdraw_sched u
  · rfl

/-- R39: only a rail that leaves UP marks the draw slot here. -/
theorem announceStopped_bus : ∃ on, (on = true → old = .up ∧ new ≠ .up) ∧
    (announceStopped old new u).bus = markedIf on u := by
  unfold announceStopped
  split
  next hleaves =>
    obtain ⟨on, hon⟩ := withdraw_bus u
    exact ⟨on, fun _ => hleaves, hon⟩
  next => exact ⟨false, Bool.false_ne_true.elim, (markedIf_false u).symm⟩

theorem committedBecame_drivesEnded :
    CommittedBecame (if new = .down then committedEnded u else u.sched.committed) u (drivesEnded new u) := by
  unfold drivesEnded
  split
  · exact committedBecame_endAllChannels u
  · exact CommittedBecame.refl u

theorem drivesEnded_coil : (drivesEnded new u).coils[c] =
    if new = .down then externallyEnded u.coils[c] u.pins.sense[c] else u.coils[c] := by
  unfold drivesEnded
  split
  · exact endAllChannels_coil u c
  · rfl

theorem dutiesFollowed_framed : Framed [.coils] u (dutiesFollowed old new u) := by
  unfold dutiesFollowed
  split
  · exact rechooseAll_framed u
  · exact Framed.refl _ u

theorem dutiesFollowed_coil : (dutiesFollowed old new u).coils[c] = { u.coils[c] with
    duty := if (old = .sag ↔ new ≠ .sag) ∧ u.settings.coils[c].cls = .flipper ∧ u.coils[c].state = .hold
      then some (smallestDuty u.settings.coils[c].duty u.thermal.levels[c] u.rail.state) else u.coils[c].duty } := by
  unfold dutiesFollowed
  split
  next h =>
    rw [rechooseAll_coil, rechooseDuty_coil]
    simp only [iff_true_intro h, true_and]
  next h => simp only [iff_false_intro h, false_and, if_false]

theorem drawMarked_framed : Framed [.bus] u (drawMarked old new u) := by
  unfold drawMarked
  split
  · exact Framed.refl _ u
  · exact markDraw_framed u

theorem drawMarked_eq : drawMarked old new u = { u with bus := markedIf (decide ¬(old = .up ↔ new = .up)) u } := by
  unfold drawMarked
  split
  next h => rw [decide_eq_false (not_not_intro h), markedIf_false]
  next h => rw [decide_eq_true h, markDraw_eq]

end

/-! ### A change of rail state, whole -/

/-- A channel that has ended is not in HOLD, and has no duty to choose. -/
theorem externallyEnded_ne_hold (ch : CoilChannel) (sense : Sense) : (externallyEnded ch sense).state ≠ .hold := by
  unfold externallyEnded
  split
  next => exact CoilState.noConfusion
  next hoff =>
    split
    · exact CoilState.noConfusion
    · exact fun hhold => hoff (by rw [hhold]; rfl)

/-- The change of rail state up to the drives: the monitor, its report and the announce. -/
def railEntered (new : RailState) (s : State) : State := announceStopped s.rail.state new (monitorMoved new s)

section
variable (new : RailState) (s : State) (c : CoilNo)

theorem railEntered_framed : Framed [.rail, .service, .sched, .bus] s (railEntered new s) :=
  ((monitorMoved_framed new s).mono (by simp)).trans ((announceStopped_framed _ new _).mono (by simp))

theorem railEntered_rail : (railEntered new s).rail = railEntry new s.pins.rail s.settings.vOn s.settings.vSag := by
  have hsame : (railEntered new s).rail = (monitorMoved new s).rail :=
    (announceStopped_framed _ new _).2 .rail (by simp)
  rw [hsame, monitorMoved_rail]

theorem railEntered_service : (railEntered new s).service = (railReport s.rail.state new s).service := by
  have hsame : (railEntered new s).service = (monitorMoved new s).service :=
    (announceStopped_framed _ new _).2 .service (by simp)
  rw [hsame, monitorMoved, railReport_service, railReport_service, State.onRail_service]

theorem railEntered_sched : (railEntered new s).sched = { s.sched with
    queue := if s.rail.state = .up ∧ new ≠ .up then queueWithdrawn s else s.sched.queue
    announce := if s.rail.state = .up ∧ new ≠ .up then none else s.sched.announce
    scanDue := (railEntered new s).sched.scanDue } := by
  have hsched : (monitorMoved new s).sched = s.sched := (monitorMoved_framed new s).2 .sched (by simp)
  have hqueue : queueWithdrawn (monitorMoved new s) = queueWithdrawn s := by rw [queueWithdrawn, hsched, queueWithdrawn]
  have heq := announceStopped_sched s.rail.state new (monitorMoved new s)
  rw [hsched, hqueue] at heq
  exact heq

theorem railEntered_bus : ∃ on, (on = true → s.rail.state = .up ∧ new ≠ .up) ∧
    (railEntered new s).bus = markedIf on s := by
  obtain ⟨on, hleaves, hbus⟩ := announceStopped_bus s.rail.state new (monitorMoved new s)
  have hframe := monitorMoved_framed new s
  have hsame := markedIf_markedIf (a := false) on ((hframe.2 .bus (by simp)).trans (markedIf_false s).symm)
    (hframe.2 .link (by simp))
  exact ⟨on, hleaves, hbus.trans hsame⟩

theorem committedEnded_railEntered : committedEnded (railEntered new s) = committedEnded s := by
  have hframe := railEntered_framed new s
  exact committedEnded_congr (hframe.2 .settings (by simp)) (hframe.2 .coils (by simp)) (by rw [railEntered_sched])

/-- R23, R56: D_own falls at a rail that goes DOWN alone. -/
theorem committedBecame_railEntered :
    CommittedBecame (if new = .down then committedEnded s else s.sched.committed) (railEntered new s)
      (drivesEnded new (railEntered new s)) := by
  have hcommitted : (railEntered new s).sched.committed = s.sched.committed := by rw [railEntered_sched]
  have h := committedBecame_drivesEnded new (railEntered new s)
  rwa [committedEnded_railEntered, hcommitted] at h

/-- The state of a change of rail state before its mark and its prompt for a scan. -/
def railDriven (new : RailState) (s : State) : State :=
  dutiesFollowed s.rail.state new (drivesEnded new (railEntered new s))

theorem railDriven_framed : Framed [.coils, .sched, .bus] (railEntered new s) (railDriven new s) :=
  (committedBecame_railEntered new s).framed.trans ((dutiesFollowed_framed _ new _).mono (by simp))

/-- R56, R58: a rail that goes DOWN ends the channel; else a FLIPPER in HOLD follows the rail. -/
theorem railDriven_coil : (railDriven new s).coils[c] =
    if new = .down then externallyEnded s.coils[c] s.pins.sense[c]
    else { s.coils[c] with
      duty := if (s.rail.state = .sag ↔ new ≠ .sag) ∧ s.settings.coils[c].cls = .flipper ∧ s.coils[c].state = .hold
        then some (smallestDuty s.settings.coils[c].duty s.thermal.levels[c] new) else s.coils[c].duty } := by
  have hentered := railEntered_framed new s
  have hframe : Framed [.rail, .service, .coils, .sched, .bus] s (drivesEnded new (railEntered new s)) :=
    (hentered.mono (by simp)).trans ((committedBecame_railEntered new s).framed.mono (by simp))
  have hsettings : (drivesEnded new (railEntered new s)).settings = s.settings := hframe.2 .settings (by simp)
  have hthermal : (drivesEnded new (railEntered new s)).thermal = s.thermal := hframe.2 .thermal (by simp)
  have hrail : (drivesEnded new (railEntered new s)).rail.state = new := by
    have hsame : (drivesEnded new (railEntered new s)).rail = (railEntered new s).rail :=
      (committedBecame_railEntered new s).framed.2 .rail (by simp)
    rw [hsame, railEntered_rail]
    rfl
  have hcoil : (drivesEnded new (railEntered new s)).coils[c] =
      if new = .down then externallyEnded s.coils[c] s.pins.sense[c] else s.coils[c] := by
    have hcoils : (railEntered new s).coils = s.coils := hentered.2 .coils (by simp)
    have hpins : (railEntered new s).pins = s.pins := hentered.2 .pins (by simp)
    rw [drivesEnded_coil, hcoils, hpins]
  rw [railDriven, dutiesFollowed_coil, hsettings, hthermal, hrail, hcoil]
  split
  next => rw [if_neg fun hfollow => externallyEnded_ne_hold _ _ hfollow.2.2]
  next => rfl

theorem railDriven_sched : (railDriven new s).sched =
    { committed := if new = .down then committedEnded s else s.sched.committed
      queue := if s.rail.state = .up ∧ new ≠ .up then queueWithdrawn s else s.sched.queue
      announce := if s.rail.state = .up ∧ new ≠ .up then none else s.sched.announce
      scanDue := (railDriven new s).sched.scanDue } := by
  have hsame : (railDriven new s).sched = (drivesEnded new (railEntered new s)).sched :=
    (dutiesFollowed_framed _ new _).2 .sched (by simp)
  rw [hsame, (committedBecame_railEntered new s).sched, railEntered_sched]

/-- R39: with the mark of a rail that enters or leaves UP, whatever the announce withdrawn marked adds nothing. -/
theorem markedIf_railDriven : markedIf (decide ¬(s.rail.state = .up ↔ new = .up)) (railDriven new s) =
    markedIf (decide ¬(s.rail.state = .up ↔ new = .up) ||
      decide (new = .down ∧ committedEnded s ≠ s.sched.committed)) s := by
  obtain ⟨on, hleaves, hon⟩ := railEntered_bus new s
  have hentered := railEntered_framed new s
  have hframe := railDriven_framed new s
  have hcommitted : (railEntered new s).sched.committed = s.sched.committed := by rw [railEntered_sched]
  have hdriven : (railDriven new s).bus = (drivesEnded new (railEntered new s)).bus :=
    (dutiesFollowed_framed _ new _).2 .bus (by simp)
  rw [(committedBecame_railEntered new s).bus, hcommitted,
    markedIf_markedIf _ hon (hentered.2 .link (by simp))] at hdriven
  rw [markedIf_markedIf _ hdriven ((hframe.2 .link (by simp)).trans (hentered.2 .link (by simp)))]
  have hended : decide ((if new = .down then committedEnded s else s.sched.committed) ≠ s.sched.committed) =
      decide (new = .down ∧ committedEnded s ≠ s.sched.committed) :=
    decide_eq_decide.2 (by split_ifs with hdown <;> simp [hdown])
  rw [hended]
  cases on
  case false => rw [Bool.false_or, Bool.or_comm]
  case true =>
    have hup : (decide ¬(s.rail.state = .up ↔ new = .up)) = true := decide_eq_true (by simp [hleaves rfl])
    rw [hup, Bool.or_true, Bool.true_or]

theorem changeRail_eq_railDriven : changeRail new s = { railDriven new s with
    sched := { (railDriven new s).sched with scanDue := true }
    bus := markedIf (decide ¬(s.rail.state = .up ↔ new = .up)) (railDriven new s) } := by
  rw [changeRail_eq, drawMarked_eq]
  rfl

theorem changeRail_framed : Framed [.rail, .coils, .sched, .bus, .service] s (changeRail new s) := by
  have hdriven : Framed [.rail, .coils, .sched, .bus, .service] s (railDriven new s) :=
    ((railEntered_framed new s).mono (by simp)).trans ((railDriven_framed new s).mono (by simp))
  rw [changeRail_eq]
  exact (hdriven.trans ((drawMarked_framed _ new _).mono (by simp))).trans ((promptScan_framed _).mono (by simp))

/-- R155: all that a change of rail state hands on. -/
theorem railChanged_changeRail : RailChanged new s (changeRail new s) := by
  have hdriven := railDriven_framed new s
  have hrail : (changeRail new s).rail = railEntry new s.pins.rail s.settings.vOn s.settings.vSag := by
    rw [changeRail_eq_railDriven, ← railEntered_rail]
    exact hdriven.2 .rail (by simp)
  have hservice : (changeRail new s).service = (railReport s.rail.state new s).service := by
    rw [changeRail_eq_railDriven, ← railEntered_service]
    exact hdriven.2 .service (by simp)
  refine ⟨hrail, fun c => ?_, ?_, ?_, ?_, ?_, ?_, changeRail_framed new s⟩
  · rw [changeRail_eq_railDriven]
    exact railDriven_coil new s c
  · rw [changeRail_eq_railDriven, railDriven_sched]
  · rw [changeRail_eq_railDriven]
    exact markedIf_railDriven new s
  all_goals
    rw [hservice, railReport_service]
    split_ifs <;> rfl

end

/-! ### The readings and the timers of the rail monitor -/

theorem railJudged_iff (l : LinkState) : railJudged l = true ↔ l ≠ .offline ∧ l ≠ .held := by
  cases l <;> decide

theorem runWhile_eq (p : Prop) [Decidable p] (limit : Nat) (t : Timer) :
    runWhile (decide p) limit t = if p then goesOn t limit else none := by
  simp only [runWhile, decide_eq_true_eq, goesOn]
  cases t <;> rfl

section
variable {s : State} {v : Nat}

/-- R151: a reading that no configuration judges is only taken in. -/
theorem railReading_of_not_judged (h : ¬(s.link.state ≠ .offline ∧ s.link.state ≠ .held)) :
    railReading v s = { s with pins := { s.pins with rail := v } } :=
  if_neg fun hjudged => h ((railJudged_iff _).1 hjudged)

theorem railReading_of_judged (h : s.link.state ≠ .offline ∧ s.link.state ≠ .held) :
    railReading v s = judgeRail { s with pins := { s.pins with rail := v } } :=
  if_pos ((railJudged_iff _).2 h)

theorem judgeRail_of_down (h : s.rail.state = .down) :
    judgeRail s = if s.settings.vOn ≤ s.pins.rail then changeRail .settling s else s := by
  simp only [judgeRail, h]

theorem judgeRail_of_settling (h : s.rail.state = .settling) :
    judgeRail s = if s.pins.rail < s.settings.vOn then changeRail .down s else s := by
  simp only [judgeRail, h]

theorem judgeRail_of_up (h : s.rail.state = .up) : judgeRail s =
    if s.pins.rail < s.settings.vOn then changeRail .down s
    else { s with rail := { s.rail with
      sagQualify := if s.pins.rail < s.settings.vSag then goesOn s.rail.sagQualify (ms 2) else none } } := by
  rw [← runWhile_eq, judgeRail, h]
  rfl

theorem judgeRail_of_sag (h : s.rail.state = .sag) : judgeRail s =
    if s.pins.rail < s.settings.vOn then changeRail .down s
    else { s with rail := { s.rail with
      sagClear := if s.settings.vSag ≤ s.pins.rail then goesOn s.rail.sagClear (ms 20) else none } } := by
  rw [← runWhile_eq, judgeRail, h]
  rfl

end

section
variable {s t : State} {new : RailState}

theorem railChanged_of_eq (h : t = changeRail new s) : RailChanged new s t := h ▸ railChanged_changeRail new s

/-- A row of the table that changes the rail state at the expiry of a timer. -/
theorem yields_railChanged {i : Instr} {due : Bool} (hrow : exec i s = .next (if due then changeRail new s else s))
    (hdue : due = true) : Yields (exec i s) (RailChanged new s) :=
  ⟨_, hrow, railChanged_of_eq (if_pos hdue)⟩

end

/-- Settles O47: a timer that has reached its time, and a reading that crosses its threshold, bring a change of rail
state (`railChanged_changeRail`); any other reading runs or stops a qualify timer alone. -/
theorem railMonitored : Obligations.RailMonitored := by
  intro s b
  refine ⟨fun hstate hdue => yields_railChanged rfl (by rw [settleDue, hstate, hdue]; rfl),
    fun hstate hdue => yields_railChanged rfl (by rw [sagQualifyDue, hstate, hdue]; rfl),
    fun hstate hdue => yields_railChanged rfl (by rw [sagClearDue, hstate, hdue]; rfl),
    railReading b.toNat s, rfl, railReading_of_not_judged, fun hjudged hstate => ?_, fun hjudged hstate => ?_,
    fun hjudged hstate => ?_, fun hjudged hstate => ?_⟩
  · have heq := (railReading_of_judged (v := b.toNat) hjudged).trans (judgeRail_of_down (by exact hstate))
    exact ⟨fun hlow => heq.trans (if_neg (Nat.not_le.2 hlow)), fun hon => railChanged_of_eq (heq.trans (if_pos hon))⟩
  · have heq := (railReading_of_judged (v := b.toNat) hjudged).trans (judgeRail_of_settling (by exact hstate))
    exact ⟨fun hlow => railChanged_of_eq (heq.trans (if_pos hlow)), fun hon => heq.trans (if_neg (Nat.not_lt.2 hon))⟩
  · have heq := (railReading_of_judged (v := b.toNat) hjudged).trans (judgeRail_of_up (by exact hstate))
    exact ⟨fun hlow => railChanged_of_eq (heq.trans (if_pos hlow)), fun hon => heq.trans (if_neg (Nat.not_lt.2 hon))⟩
  · have heq := (railReading_of_judged (v := b.toNat) hjudged).trans (judgeRail_of_sag (by exact hstate))
    exact ⟨fun hlow => railChanged_of_eq (heq.trans (if_pos hlow)), fun hon => heq.trans (if_neg (Nat.not_lt.2 hon))⟩

end Sys2Proof.Machine
end

section
/-! The table fault line: when the station drives it, the entry to SAFE when it is seen asserted, and the release settle
(R157 to R159, R161); and the status lamp (R172). -/

namespace Sys2Proof.Machine

/-! ### The levels the station drives -/

/-- R157: the station drives the line for a latched kind or the DUPLICATE mark. -/
theorem faultLineDriven_iff (s : State) : faultLineDriven s = true ↔ s.faultLine.duplicate = true ∨
    ∃ k ∈ s.faultLine.kinds.toList, k.short = true ∨ k.stuck = true ∨ k.opened = true := by
  simp only [faultLineDriven, assertsLine, Bool.or_eq_true, List.any_eq_true, or_assoc]

theorem anyCoil_iff (s : State) (st : CoilState) : anyCoil s st = true ↔ ∃ c : CoilNo, s.coils[c].state = st := by
  simp only [anyCoil, List.any_eq_true, Vector.mem_toList_iff, decide_eq_true_eq]
  constructor
  · rintro ⟨ch, hmem, hst⟩
    obtain ⟨i, hi, rfl⟩ := Vector.getElem_of_mem hmem
    exact ⟨⟨i, hi⟩, hst⟩
  · rintro ⟨c, hst⟩
    exact ⟨s.coils[c], Vector.getElem_mem c.isLt, hst⟩

/-- R172: in OFFLINE and HELD whatever the mask says, else for each condition that the mask holds. -/
theorem statusLamp_iff (s : State) : statusLamp s = true ↔ s.link.state = .offline ∨ s.link.state = .held ∨
    (s.settings.statusMask.notArmed = true ∧ s.link.state ≠ .armed) ∨
    (s.settings.statusMask.railNotUp = true ∧ s.rail.state ≠ .up) ∨
    (s.settings.statusMask.safe = true ∧ s.faultLine.drive = .safe) ∨
    (s.settings.statusMask.lockout = true ∧ ∃ c : CoilNo, s.coils[c].state = .lockout) ∨
    (s.settings.statusMask.fault = true ∧ ∃ c : CoilNo, s.coils[c].state = .fault) ∨
    (s.settings.statusMask.degraded = true ∧ s.link.degraded = true) := by
  rw [← or_assoc]
  unfold statusLamp
  dsimp only
  split
  next hunconfigured => exact ⟨fun _ => .inl hunconfigured, fun _ => rfl⟩
  next hconfigured =>
    rw [or_iff_right hconfigured]
    simp only [Bool.or_eq_true, Bool.and_eq_true, decide_eq_true_eq, anyCoil_iff, or_assoc]

/-! ### The entry to SAFE -/

/-- R158: the drive state becomes SAFE, which is reported. -/
def safeReported (s : State) : State := raise .safeEntered (s.onFaultLine fun f => { f with drive := .safe })

section
variable (s : State) (c : CoilNo)

theorem safeReported_framed : Framed [.faultLine, .service] s (safeReported s) :=
  ((onFaultLine_framed _ s).mono (by simp)).trans ((raise_framed _ _).mono (by simp))

theorem enterSafe_eq : enterSafe s = promptScan (markDraw (flushQueue (endAllChannels (safeReported s)))) := rfl

theorem enterSafe_after_ends : Framed [.sched, .bus] (endAllChannels (safeReported s)) (enterSafe s) := by
  rw [enterSafe_eq]
  exact ((flushQueue_framed _).trans ((markDraw_framed _).mono (by simp))).trans ((promptScan_framed _).mono (by simp))

theorem enterSafe_after_report : Framed [.coils, .sched, .bus] (safeReported s) (enterSafe s) :=
  (endAllChannels_framed _).trans ((enterSafe_after_ends s).mono (by simp))

theorem enterSafe_framed : Framed [.faultLine, .coils, .sched, .bus, .service] s (enterSafe s) :=
  ((safeReported_framed s).mono (by simp)).trans ((enterSafe_after_report s).mono (by simp))

theorem enterSafe_faultLine : (enterSafe s).faultLine = { s.faultLine with drive := .safe } :=
  (enterSafe_after_report s).2 .faultLine (by simp)

theorem enterSafe_service : (enterSafe s).service =
    { s.service with events := s.service.events ||| 0x1000#16, raised := s.service.raised ||| 0x1000#16 } :=
  (enterSafe_after_report s).2 .service (by simp)

/-- R56, R158: every channel ends. -/
theorem enterSafe_coil : (enterSafe s).coils[c] = externallyEnded s.coils[c] s.pins.sense[c] := by
  have hcoils : (enterSafe s).coils = (endAllChannels (safeReported s)).coils :=
    (enterSafe_after_ends s).2 .coils (by simp)
  rw [hcoils, endAllChannels_coil]
  rfl

/-- R16, R158: every entry of the queue leaves, and D_own falls by what the channels drew. -/
theorem enterSafe_sched : (enterSafe s).sched =
    { committed := committedEnded s, queue := [], announce := none, scanDue := true } := by
  rw [enterSafe_eq, promptScan_eq, markDraw_eq, flushQueue_eq, (committedBecame_endAllChannels (safeReported s)).sched]
  rfl

/-- R158: whatever the ends and the flush marked, the draw slot is marked once more. -/
theorem enterSafe_bus : (enterSafe s).bus = markedIf true s := by
  have hended := committedBecame_endAllChannels (safeReported s)
  have hlink : (endAllChannels (safeReported s)).link = (safeReported s).link := hended.framed.2 .link (by simp)
  have hflushed := markedIf_markedIf true (congrArg State.bus (flushQueue_eq (endAllChannels (safeReported s))))
    ((flushQueue_framed _).2 .link (by simp))
  have hbus : (enterSafe s).bus = markedIf true (flushQueue (endAllChannels (safeReported s))) := by
    rw [enterSafe_eq, promptScan_eq, markDraw_eq]
  rw [hbus, hflushed, markedIf_markedIf _ hended.bus hlink, Bool.or_true, Bool.or_true]
  rfl

end

/-! ### The line seen asserted -/

/-- R159: the line reads asserted, and a release settle that runs stops. -/
def assertionSeen (s : State) : State :=
  (s.onPins fun p => { p with tfaultLow := true }).onFaultLine fun f => { f with release := none }

section
variable {s : State}

theorem assertionSeen_framed : Framed [.pins, .faultLine] s (assertionSeen s) :=
  ((onPins_framed _ s).mono (by simp)).trans ((onFaultLine_framed _ _).mono (by simp))

/-- R161: before the end of the power-up hold the line is not watched. -/
theorem lineAsserted_of_unwatched (h : s.faultLine.watching = false) :
    lineAsserted s = s.onPins fun p => { p with tfaultLow := true } :=
  if_neg (ne_true_of_eq_false h)

theorem lineAsserted_of_watched (h : s.faultLine.watching = true) :
    lineAsserted s = if s.faultLine.drive = .normal then enterSafe (assertionSeen s) else assertionSeen s :=
  if_pos h

/-- R159: the line is seen released only while the station does not drive it itself. -/
theorem lineReleased_of_free (hfree : faultLineDriven s = false) (hlow : s.pins.tfaultLow = true) :
    lineReleased s = { s with
      pins := { s.pins with tfaultLow := false }
      faultLine := { s.faultLine with release :=
        if s.faultLine.watching = true ∧ s.faultLine.drive = .safe then some (startTimer (ms 100))
        else s.faultLine.release } } := by
  have hseen : ¬(assertsLine s.faultLine || !s.pins.tfaultLow) = true := by
    rw [hlow, ← faultLineDriven, hfree]
    decide
  unfold lineReleased
  rw [if_neg hseen]
  dsimp only
  split
  next hsettles =>
    obtain ⟨hwatch, hsafe⟩ := Bool.and_eq_true_iff.1 hsettles
    rw [if_pos ⟨hwatch, of_decide_eq_true hsafe⟩]
    rfl
  next hsettles =>
    rw [if_neg fun ⟨hwatch, hsafe⟩ => hsettles (Bool.and_eq_true_iff.2 ⟨hwatch, decide_eq_true hsafe⟩)]
    rfl

theorem releaseSettled_of_due (hsafe : s.faultLine.drive = .safe) (hreached : timerReached s.faultLine.release = true) :
    releaseSettled s = { s with
      faultLine := { s.faultLine with drive := .normal, release := none }
      sched := { s.sched with scanDue := true }
      bus := markedIf true s } := by
  have hdue : releaseDue s = true := by
    rw [releaseDue, hsafe, hreached]
    rfl
  rw [releaseSettled, if_pos hdue, markDraw_eq]
  rfl

end

/-- Settles O48: the levels by `faultLineDriven_iff` and `statusLamp_iff`; an assertion by whether the line is watched
and by the drive state, NORMAL giving the entry to SAFE; then the release and its settle. -/
theorem faultLineAndSafe : Obligations.FaultLineAndSafe := by
  intro s
  refine ⟨faultLineDriven_iff s, statusLamp_iff s, ⟨lineAsserted s, rfl, ?_, fun hwatch => ?_, fun hwatch hsafe => ?_,
      fun hwatch hnormal => ?_⟩,
    fun hfree hlow => ⟨lineReleased s, rfl, lineReleased_of_free hfree hlow⟩,
    fun hsafe hreached => ⟨releaseSettled s, rfl, releaseSettled_of_due hsafe hreached⟩⟩
  · cases hwatch : s.faultLine.watching
    case false =>
      rw [lineAsserted_of_unwatched hwatch]
      rfl
    case true =>
      rw [lineAsserted_of_watched hwatch]
      split
      · exact (enterSafe_framed (assertionSeen s)).2 .pins (by simp)
      · rfl
  · rw [lineAsserted_of_unwatched hwatch]
    exact onPins_framed _ s
  · rw [lineAsserted_of_watched hwatch, if_neg (by rw [hsafe]; decide)]
    exact ⟨rfl, assertionSeen_framed⟩
  · have hframe := enterSafe_framed (assertionSeen s)
    rw [lineAsserted_of_watched hwatch, if_pos hnormal]
    exact ⟨enterSafe_faultLine _, enterSafe_coil _, enterSafe_sched _, enterSafe_bus _, enterSafe_service _,
      (assertionSeen_framed.mono (by simp)).trans (hframe.mono (by simp))⟩

end Sys2Proof.Machine
end

section
/-! What a step can do, said once: `Change` lists the primitive changes of the station that touch a field some invariant
of Safety.lean reads, each with what the model guarantees where it makes that change.  Every row of the table, and the
passing of a quantum, is a chain of them (`exec_changes`).  An invariant is then kept by every step because each
primitive change keeps it. -/

namespace Sys2Proof.Machine

/-! ### What the invariants read -/

/-- The fields that the invariants of Safety.lean read, and the commands that wait. -/
structure Watched where
  pending : List Instr
  switchHigh : Vector Bool 32
  heat : Vector Nat 16
  dipCount : Nat
  startUp : StartUp
  settings : Settings
  link : LinkState
  peers : List Peer
  committed : Nat
  coils : Vector CoilChannel 16
  records : Vector SwitchRecord 32
  lamps : Vector LampChannel 24
  lampQueue : List LampNo
  general : List GeneralEntry
  rail : RailState
  drive : DriveState
  counters : Vector Nat 15

/-- What the invariants read of a state. -/
def watched (s : State) : Watched :=
  { pending := s.pending, switchHigh := s.pins.switchHigh, heat := s.retained.heat, dipCount := s.retained.dipCount
    startUp := s.startUp, settings := s.settings, link := s.link.state, peers := s.link.peers
    committed := s.sched.committed, coils := s.coils, records := s.switches.records, lamps := s.lamps.lamps
    lampQueue := s.lamps.queue, general := s.bus.general, rail := s.rail.state, drive := s.faultLine.drive
    counters := s.service.counters }

section
variable (s t : State)

@[simp] theorem watched_raise (e : StickyEvent) : watched (raise e s) = watched s := rfl

@[simp] theorem watched_promptScan : watched (promptScan s) = watched s := rfl

@[simp] theorem watched_markDraw : watched (markDraw s) = watched s := by rw [markDraw_eq]; rfl

@[simp] theorem watched_noteDraw : watched (noteDraw s t) = watched t := by rw [noteDraw_eq]; rfl

@[simp] theorem watched_noteLink : watched (noteLink s) = watched s := watched_markDraw s

@[simp] theorem watched_heard : watched (heard s) = watched s := by unfold heard; split <;> rfl

@[simp] theorem watched_removeEntry (c : CoilNo) : watched (removeEntry c s) = watched s := watched_noteDraw ..

@[simp] theorem watched_flushQueue : watched (flushQueue s) = watched s := watched_noteDraw ..

@[simp] theorem watched_withdraw : watched (withdraw s) = watched s := by
  unfold withdraw
  split
  · rfl
  · exact watched_noteDraw ..

@[simp] theorem watched_latchKind (c : CoilNo) (k : FaultKind) : watched (latchKind c k s) = watched s := by
  unfold latchKind
  split <;> rfl

end

/-! ### The primitive changes -/

/-- Table 3-1 without the off-current timer, which follows every change of a channel by itself (R63). -/
abbrev CoilChannel.DriveCoherent (ch : CoilChannel) : Prop :=
  (ch.faultKind ≠ none ↔ ch.state = .fault) ∧ (ch.kickTimer ≠ none ↔ ch.state = .kick) ∧
  (ch.restTimer ≠ none ↔ ch.state = .rest) ∧ (ch.duty ≠ none ↔ ch.state = .hold) ∧
  (ch.holdTimer ≠ none → ch.state = .hold)

/-- What holds wherever the model changes channel `c` to `new`: the record stays coherent, a FLIPPER does not lock out, a
channel leaves IDLE only while a configuration is in force, and a drive begins only while nothing holds the outputs off. -/
structure MayMove (c : CoilNo) (new : CoilChannel) (s : State) : Prop where
  coherent : s.coils[c].DriveCoherent → new.DriveCoherent
  lockout : new.state = .lockout → s.settings.coils[c].cls ≠ .flipper
  configured : new.state = .idle ∨ s.coils[c].state ≠ .idle ∨ ¬Unconfigured s
  held : running new.state = true → running s.coils[c].state = true ∨ ¬HeldOff s

/-- One primitive change. -/
inductive Change : State → State → Prop
  /-- Nothing that an invariant reads. -/
  | unwatched {s t : State} (h : watched t = watched s) : Change s t
  /-- A counter (R171). -/
  | count (k : Counter) (s : State) : Change s (count k s)
  /-- A heat accumulator (R68). -/
  | heat (s : State) (c : CoilNo) {n : Nat} (h : n ≤ 65535) :
      Change s (s.onRetained fun r => { r with heat := r.heat.set c n })
  /-- A change of a channel with its share of D_own (R23). -/
  | move {s : State} {c : CoilNo} {new : CoilChannel} (h : MayMove c new s) : Change s (moveRaw c new s)
  /-- A change of a channel's record within its state. -/
  | record {s : State} {c : CoilNo} {new : CoilChannel} (hstate : new.state = s.coils[c].state)
      (hcoherent : s.coils[c].Coherent → new.Coherent) : Change s (s.onCoils fun v => v.set c new)
  /-- The rail goes DOWN or the drive SAFE, and every channel ends with it (R56). -/
  | drivesEnd {s t : State} {r : RailState} {d : DriveState}
      (hw : watched t = { watched s with
        rail := r, drive := d, coils := t.coils, committed := t.sched.committed })
      (hrail : r = s.rail.state ∨ r = .down)
      (hcoils : ∀ c : CoilNo, ∃ sense, t.coils[c] = externallyEnded s.coils[c] sense)
      (hcommitted : t.sched.committed = committedEnded s) : Change s t
  /-- The rail enters SETTLING from DOWN, or UP or SAG (R152 to R154). -/
  | rail {s : State} (f : RailMonitor → RailMonitor) (hdown : (f s.rail).state ≠ .down)
      (hsettling : (f s.rail).state = .settling → s.rail.state = .down)
      (hconf : s.rail.state = .down → ¬Unconfigured s) : Change s (s.onRail f)
  /-- The drive becomes NORMAL (R159). -/
  | normal {s : State} (f : FaultLine → FaultLine) (h : (f s.faultLine).drive = .normal) : Change s (s.onFaultLine f)
  /-- The link changes while a configuration is in force. -/
  | link {s : State} (f : LinkUnit → LinkUnit) (hs : ¬Unconfigured s) (ht : ¬Unconfigured (s.onLink f))
      (hpeers : (f s.link).peers = s.link.peers) : Change s (s.onLink f)
  /-- The peer draw table (R145, R146). -/
  | peers {s t : State} (hw : watched t = { watched s with peers := t.link.peers }) (h : PeersHold s → PeersHold t) :
      Change s t
  /-- The transmit queue (R126). -/
  | transmit {s t : State} (hw : watched t = { watched s with general := t.bus.general })
      (h : TransmitHolds s → TransmitHolds t) : Change s t
  /-- A switch input with its record, or a record (R83, R85, R86). -/
  | switches {s t : State}
      (hw : watched t = { watched s with switchHigh := t.pins.switchHigh, records := t.switches.records })
      (h : SwitchesFollow s → SwitchesFollow t) : Change s t
  /-- The lamps and the lamp start queue (R106 to R112). -/
  | lamps {s t : State} (hw : watched t = { watched s with lamps := t.lamps.lamps, lampQueue := t.lamps.queue })
      (h : LampsHold s → LampsHold t) : Change s t
  /-- The power-up hold ends, or the loader goes from one attempt to the next (R163, R164). -/
  | load {s : State} (f : StartUp → StartUp)
      (h : (s.startUp.hold ≠ none ∧ (f s.startUp).hold = none) ∨
        (s.startUp.loader ≠ .holding ∧ s.startUp.loader ≠ .ended ∧ (f s.startUp).hold = s.startUp.hold)) :
      Change s (s.onStartUp f)
  /-- A load is rejected (R167). -/
  | reject {s : State} {n : Nat} (h : s.startUp.loader = .reading n) (o : LoadOutcome) :
      Change s (((s.onStartUp fun u => { u with loader := .ended, outcome := some o }).onRetained fun r =>
        { r with leftOffline := true }).onLink fun l => { l with state := .held, duplicateSeen := false })
  /-- An image is accepted, and the link leaves OFFLINE (R167, R138). -/
  | accept {s : State} {n : Nat} (h : s.startUp.loader = .reading n) (img : List Byte) (f : LinkUnit → LinkUnit)
      (hlink : ¬Unconfigured ((startLamps (takeSettings img s)).onLink f))
      (hpeers : (f (startLamps (takeSettings img s)).link).peers = s.link.peers) :
      Change s ((startLamps (takeSettings img s)).onLink f)
  /-- A reset (R162). -/
  | reset (s : State) {r : Retained} (hheat : HeatInRange s → ∀ c : CoilNo, r.heat[c] ≤ 65535)
      (hdip : s.retained.dipCount ≤ 65535 → r.dipCount ≤ 65535) : Change s (resetTo r s)
  /-- One quantum of time. -/
  | elapse (s : State) : Change s (elapse s)

/-- A chain of primitive changes. -/
def Changes (s t : State) : Prop := Relation.ReflTransGen Change s t

section
variable {s t u : State}

theorem Changes.refl (s : State) : Changes s s := Relation.ReflTransGen.refl

theorem Changes.trans (h : Changes s t) (k : Changes t u) : Changes s u := Relation.ReflTransGen.trans h k

theorem Change.changes (h : Change s t) : Changes s t := Relation.ReflTransGen.single h

theorem changes_of_watched (h : watched t = watched s) : Changes s t := (Change.unwatched h).changes

/-- A chain goes on over what no invariant reads. -/
theorem Changes.unwatched (h : Changes s t) (hw : watched u = watched t) : Changes s u :=
  h.trans (changes_of_watched hw)

theorem Changes.ite {p : Prop} [Decidable p] (ht : Changes s t) (hu : Changes s u) :
    Changes s (if p then t else u) := by split <;> assumption

theorem Changes.foldl {α : Type} (f : State → α → State) (xs : List α) (hf : ∀ s a, Changes s (f s a)) (s : State) :
    Changes s (xs.foldl f s) :=
  List.foldlRecOn (motive := fun u => Changes s u) xs f (Changes.refl s) fun u hu a _ => hu.trans (hf u a)

theorem changes_count (k : Counter) (s : State) : Changes s (count k s) := (Change.count k s).changes

/-! ### The channels -/

theorem changes_removeCounted (k : Counter) (c : CoilNo) (s : State) : Changes s (removeCounted k c s) := by
  unfold removeCounted
  exact ((changes_of_watched (watched_removeEntry s c)).trans (changes_count k _)).ite (Changes.refl s)

variable {c : CoilNo} {new : CoilChannel}

theorem changes_moveRaw (h : MayMove c new s) : Changes s (moveRaw c new s) := (Change.move h).changes

theorem changes_moveChannel (h : MayMove c new s) : Changes s (moveChannel c new s) :=
  (changes_moveRaw h).unwatched (watched_noteDraw ..)

section
variable {ch : CoilChannel} (hcoherent : ch.DriveCoherent)
include hcoherent

theorem faultKind_eq_none (hfault : ch.state ≠ .fault) : ch.faultKind = none :=
  by_contra fun hkind => hfault (hcoherent.1.1 hkind)

/-- The record of a channel whose drive has stopped, in a state that names no timer, duty or kind. -/
theorem driveCoherent_stopped (hfault : ch.state ≠ .fault) {st : CoilState} (hst : st = .idle ∨ st = .lockout) :
    (ch.stopped st).DriveCoherent := by
  rcases hst with rfl | rfl <;>
    simp [CoilChannel.DriveCoherent, CoilChannel.stopped, faultKind_eq_none hcoherent hfault]

theorem driveCoherent_kicked (hfault : ch.state ≠ .fault) (time : Nat) : (ch.kicked time).DriveCoherent := by
  simp [CoilChannel.DriveCoherent, CoilChannel.kicked, CoilChannel.stopped, faultKind_eq_none hcoherent hfault]

theorem driveCoherent_held (hfault : ch.state ≠ .fault) (limit q : Nat) : (ch.held limit q).DriveCoherent := by
  simp [CoilChannel.DriveCoherent, CoilChannel.held, CoilChannel.stopped, faultKind_eq_none hcoherent hfault]

theorem driveCoherent_rested (hfault : ch.state ≠ .fault) (time : Nat) : (ch.rested time).DriveCoherent := by
  simp [CoilChannel.DriveCoherent, CoilChannel.rested, CoilChannel.stopped, faultKind_eq_none hcoherent hfault]

end

theorem mayMove_idle (hfault : s.coils[c].state ≠ .fault) : MayMove c (s.coils[c].stopped .idle) s where
  coherent := fun h => driveCoherent_stopped h hfault (.inl rfl)
  lockout := fun h => nomatch h
  configured := .inl rfl
  held := fun h => nomatch h

theorem mayMove_kicked (hfault : s.coils[c].state ≠ .fault) (hheld : ¬HeldOff s) (time : Nat) :
    MayMove c (s.coils[c].kicked time) s where
  coherent := fun h => driveCoherent_kicked h hfault time
  lockout := fun h => nomatch h
  configured := .inr (.inr fun hu => hheld (.inr (.inr (.inr hu))))
  held := fun _ => .inr hheld

/-- R48, R52: a hold follows a kick. -/
theorem mayMove_held (hkick : s.coils[c].state = .kick) (limit q : Nat) : MayMove c (s.coils[c].held limit q) s where
  coherent := fun h => driveCoherent_held h (by rw [hkick]; decide) limit q
  lockout := fun h => nomatch h
  configured := .inr (.inl (by rw [hkick]; decide))
  held := fun _ => .inl (by rw [hkick]; rfl)

theorem mayMove_rested (hon : s.coils[c].state = .kick ∨ s.coils[c].state = .hold) (time : Nat) :
    MayMove c (s.coils[c].rested time) s where
  coherent := fun h => driveCoherent_rested h (by rcases hon with h | h <;> rw [h] <;> decide) time
  lockout := fun h => nomatch h
  configured := .inr (.inl (by rcases hon with h | h <;> rw [h] <;> decide))
  held := fun _ => .inl (by rcases hon with h | h <;> rw [h] <;> rfl)

theorem mayMove_faulted (hconf : ¬Unconfigured s) (k : FaultKind) :
    MayMove c { s.coils[c].stopped .fault with faultKind := some k } s where
  coherent := fun _ => by simp [CoilChannel.DriveCoherent, CoilChannel.stopped]
  lockout := fun h => nomatch h
  configured := .inr (.inr hconf)
  held := fun h => nomatch h

theorem mayMove_lockedOut (hfault : s.coils[c].state ≠ .fault) (hcls : s.settings.coils[c].cls ≠ .flipper)
    (hconf : ¬Unconfigured s) : MayMove c (s.coils[c].stopped .lockout) s where
  coherent := fun h => driveCoherent_stopped h hfault (.inr rfl)
  lockout := fun _ => hcls
  configured := .inr (.inr hconf)
  held := fun h => nomatch h

/-- R65: a cleared FAULT. -/
theorem mayMove_cleared : MayMove c { s.coils[c].stopped .idle with faultKind := none } s where
  coherent := fun _ => by simp [CoilChannel.DriveCoherent, CoilChannel.stopped]
  lockout := fun h => nomatch h
  configured := .inl rfl
  held := fun h => nomatch h

theorem not_heldOff_of_pressAllowed (h : pressAllowed s = true) : ¬HeldOff s := by
  obtain ⟨hdrive, hrail, hlink⟩ := (pressAllowed_iff s).1 h
  rintro (hs | hs | hs | hs | hs) <;> simp_all

theorem not_heldOff_of_eligible (h : eligible s c = true) : ¬HeldOff s := by
  obtain ⟨hlink, hrail, hdrive, -⟩ := (eligible_iff s c).1 h
  rintro (hs | hs | hs | hs | hs) <;> simp_all

theorem changes_flipperKick (hfault : s.coils[c].state ≠ .fault) (hpress : pressAllowed s = true) :
    Changes s (flipperKick c s) :=
  changes_moveChannel (mayMove_kicked hfault (not_heldOff_of_pressAllowed hpress) _)

theorem changes_restEnds (hrest : s.coils[c].state = .rest) : Changes s (restEnds c s) := by
  have hfault : s.coils[c].state ≠ .fault := by rw [hrest]; decide
  by_cases hflip : Reflips c s
  · rw [restEnds_of_reflips hflip]
    obtain ⟨-, -, -, hpress⟩ := hflip
    exact changes_flipperKick hfault hpress
  · rw [restEnds_of_not_reflips hflip]
    exact changes_moveChannel (mayMove_idle hfault)

theorem changes_enterRest (hon : s.coils[c].state = .kick ∨ s.coils[c].state = .hold) :
    Changes s (enterRest c s) := by
  have hrested := changes_moveChannel (mayMove_rested hon s.settings.coils[c].restTime)
  unfold enterRest
  exact (hrested.trans (changes_restEnds (by rw [moveChannel_coil]; rfl))).ite hrested

theorem changes_releaseMarked (on : Bool) (c : CoilNo) (s : State) : Changes s (releaseMarked s c on) :=
  (Change.record (new := { s.coils[c] with needsRelease := on }) rfl id).changes

theorem changes_rechooseDuty (c : CoilNo) (s : State) : Changes s (rechooseDuty c s) := by
  unfold rechooseDuty
  split
  next h =>
    refine (Change.record ?_ ?_).changes
    · rfl
    · exact fun ⟨hkind, hkick, hrest, _, hhold, hoff⟩ =>
        ⟨hkind, hkick, hrest, iff_of_true (Option.some_ne_none _) h.2, hhold, hoff⟩
  next => exact Changes.refl s

theorem changes_rechooseAll (s : State) : Changes s (rechooseAll s) :=
  Changes.foldl _ _ (fun s c => changes_rechooseDuty c s) s

theorem changes_reportFault (c : CoilNo) (k : FaultKind) (s : State) : Changes s (reportFault c k s) :=
  (changes_of_watched (s := s) (watched_latchKind (raise .driverFault s) c k)).trans (changes_removeCounted _ c _)

theorem changes_enterFault (hconf : ¬Unconfigured s) (c : CoilNo) (k : FaultKind) : Changes s (enterFault c k s) :=
  (changes_moveChannel (mayMove_faulted hconf k)).trans (changes_reportFault c k _)

theorem changes_endChannel (c : CoilNo) (s : State) : Changes s (endChannel c s) := by
  unfold endChannel
  split
  next h => exact changes_moveChannel (mayMove_idle (by rcases h with h | h | h <;> rw [h] <;> decide))
  next => exact Changes.refl s

theorem changes_endAllChannels (s : State) : Changes s (endAllChannels s) :=
  Changes.foldl _ _ (fun s c => changes_endChannel c s) s

theorem changes_endQueuedChannels (s : State) : Changes s (endQueuedChannels s) :=
  Changes.foldl _ _ (fun s c => (Changes.refl s).ite (changes_endChannel c s)) s

theorem changes_startKickRaw (hidle : s.coils[c].state = .idle) (hheld : ¬HeldOff s) :
    Changes s (startKickRaw c s) := by
  have hused : Changes s (count .delivered (s.onSched fun q => { q with queue := useEntry c q.queue })) :=
    Changes.trans (changes_of_watched (t := s.onSched _) rfl) (changes_count .delivered _)
  have hfault : s.coils[c].state ≠ .fault := by rw [hidle]; decide
  refine hused.trans (changes_moveRaw (c := c) (s := count .delivered (s.onSched _)) (mayMove_kicked ?_ ?_ _))
  · exact hfault
  · exact hheld

theorem changes_startKick (hel : eligible s c = true) : Changes s (startKick c s) :=
  (changes_startKickRaw ((eligible_iff s c).1 hel).2.2.2.1 (not_heldOff_of_eligible hel)).unwatched (watched_noteDraw ..)

end

end Sys2Proof.Machine
end

section
/-! The rest of the shared operations and every row of the table, as chains of primitive changes: `exec_changes`. -/

namespace Sys2Proof.Machine

section
variable {s t : State}

/-! ### The transmit queue -/

theorem TransmitHolds.of_sublist (h : TransmitHolds s) (hsub : t.bus.general.Sublist s.bus.general) :
    TransmitHolds t :=
  ⟨hsub.length_le.trans h.1, (hsub.filter isReply).length_le.trans h.2⟩

/-- Entries leave the transmit queue. -/
theorem changes_of_sublist (hw : watched t = { watched s with general := t.bus.general })
    (hsub : t.bus.general.Sublist s.bus.general) : Changes s t :=
  (Change.transmit hw fun h => TransmitHolds.of_sublist h hsub).changes

theorem changes_cutTransmit (s : State) : Changes s (cutTransmit s) :=
  changes_of_sublist (t := cutTransmit s) rfl List.filter_sublist

/-! ### The rail and the table fault line -/

theorem watched_endAllChannels (s : State) : watched (endAllChannels s) = { watched s with
    coils := (endAllChannels s).coils, committed := committedEnded s } := by
  have hended := committedBecame_endAllChannels s
  obtain ⟨hpending, hsame⟩ := hended.framed
  have hpins : (endAllChannels s).pins = s.pins := hsame .pins (by simp)
  have hretained : (endAllChannels s).retained = s.retained := hsame .retained (by simp)
  have hstart : (endAllChannels s).startUp = s.startUp := hsame .startUp (by simp)
  have hsettings : (endAllChannels s).settings = s.settings := hsame .settings (by simp)
  have hlink : (endAllChannels s).link = s.link := hsame .link (by simp)
  have hswitches : (endAllChannels s).switches = s.switches := hsame .switches (by simp)
  have hlamps : (endAllChannels s).lamps = s.lamps := hsame .lamps (by simp)
  have hrail : (endAllChannels s).rail = s.rail := hsame .rail (by simp)
  have hfault : (endAllChannels s).faultLine = s.faultLine := hsame .faultLine (by simp)
  have hservice : (endAllChannels s).service = s.service := hsame .service (by simp)
  have hcommitted : (endAllChannels s).sched.committed = committedEnded s := by rw [hended.sched]
  have hgeneral : (endAllChannels s).bus.general = s.bus.general := by rw [hended.bus, markedIf]
  simp only [watched, hpending, hpins, hretained, hstart, hsettings, hlink, hswitches, hlamps, hrail, hfault, hservice,
    hcommitted, hgeneral]

/-- R56: in `u` the rail or the drive of `s` has changed; then every channel ends. -/
theorem changes_drivesEnd {u : State} {r : RailState} {d : DriveState}
    (hw : watched u = { watched s with rail := r, drive := d }) (hrail : r = s.rail.state ∨ r = .down) :
    Changes s (endAllChannels u) := by
  have hcoils : u.coils = s.coils := congrArg Watched.coils hw
  have hsettings : u.settings = s.settings := congrArg Watched.settings hw
  have hcommitted : u.sched.committed = s.sched.committed := congrArg Watched.committed hw
  have hended : (endAllChannels u).sched.committed = committedEnded u := by
    rw [(committedBecame_endAllChannels u).sched]
  refine (Change.drivesEnd (r := r) (d := d) ?_ hrail (fun c => ⟨u.pins.sense[c], ?_⟩) ?_).changes
  · rw [watched_endAllChannels, hw, hended]
  · rw [endAllChannels_coil, hcoils]
  · rw [hended]
    exact committedEnded_congr hsettings hcoils hcommitted

theorem changes_railReport (old new : RailState) (s : State) : Changes s (railReport old new s) := by
  unfold railReport
  split
  · exact (changes_of_watched (watched_raise s .railSag)).trans (changes_count .sagEntries _)
  · exact (changes_of_watched (watched_raise s .railDrop)).trans (changes_count .railDrops _)
  · exact (changes_of_watched (watched_raise s .railDrop)).trans (changes_count .railDrops _)
  · exact Changes.refl s

theorem monitorMoved_eq (new : RailState) (s : State) : monitorMoved new s =
    (railReport s.rail.state new s).onRail fun _ => railEntry new s.pins.rail s.settings.vOn s.settings.vSag := by
  unfold monitorMoved railReport
  split <;> rfl

theorem watched_announceStopped (old new : RailState) (s : State) : watched (announceStopped old new s) = watched s := by
  unfold announceStopped
  split
  · exact watched_withdraw s
  · rfl

theorem changes_dutiesFollowed (old new : RailState) (s : State) : Changes s (dutiesFollowed old new s) :=
  (changes_rechooseAll s).ite (Changes.refl s)

theorem changes_drawMarked (old new : RailState) (s : State) : Changes s (drawMarked old new s) :=
  (Changes.refl s).ite (changes_of_watched (watched_markDraw s))

/-- R53, R39, R29: what follows a change of rail state once the channels have ended, if they have to. -/
theorem changes_after_drivesEnded (old new : RailState) (s : State) :
    Changes s (promptScan (drawMarked old new (dutiesFollowed old new s))) :=
  ((changes_dutiesFollowed old new s).trans (changes_drawMarked old new _)).unwatched (watched_promptScan _)

/-- R155: a change of rail state: to DOWN from any state, to SETTLING from DOWN alone, from DOWN only with a
configuration in force. -/
theorem changes_changeRail {new : RailState} (hsettling : new = .settling → s.rail.state = .down)
    (hconf : s.rail.state = .down → ¬Unconfigured s) : Changes s (changeRail new s) := by
  rw [changeRail_eq]
  refine Changes.trans ?_ (changes_after_drivesEnded s.rail.state new _)
  refine (changes_railReport s.rail.state new s).trans ?_
  have hsame := (railReport_framed (old := s.rail.state) (new := new) (u := s)).2
  have hrail : (railReport s.rail.state new s).rail = s.rail := hsame .rail (by simp)
  have hlink : (railReport s.rail.state new s).link = s.link := hsame .link (by simp)
  rw [monitorMoved_eq]
  by_cases hdown : new = .down
  · rw [drivesEnded, if_pos hdown]
    exact changes_drivesEnd (r := new) (watched_announceStopped _ _ _) (.inr hdown)
  · rw [drivesEnded, if_neg hdown]
    refine Changes.unwatched (Change.rail _ hdown ?_ ?_).changes (watched_announceStopped _ _ _)
    · exact fun h => by rw [hrail]; exact hsettling h
    · exact fun h => by rw [Unconfigured, hlink]; exact hconf (by rw [← hrail]; exact h)

theorem changes_enterSafe (s : State) : Changes s (enterSafe s) := by
  have hended : Changes s (endAllChannels (safeReported s)) :=
    changes_drivesEnd (s := s) (u := safeReported s) (r := s.rail.state) (d := .safe) rfl (.inl rfl)
  rw [enterSafe_eq]
  exact ((hended.unwatched (watched_flushQueue _)).unwatched (watched_markDraw _)).unwatched (watched_promptScan _)

theorem not_unconfigured_of_railJudged (h : railJudged s.link.state = true) : ¬Unconfigured s := by
  obtain ⟨hoff, hheld⟩ := (railJudged_iff _).1 h
  exact not_or.2 ⟨hoff, hheld⟩

/-- A timer of the monitor that the reading starts or stops. -/
theorem changes_railTimer (f : RailMonitor → RailMonitor) (h : (f s.rail).state = s.rail.state) :
    Changes s (s.onRail f) :=
  changes_of_watched (by simp only [watched, State.onRail_rail, h]; rfl)

theorem changes_judgeRail (hconf : ¬Unconfigured s) : Changes s (judgeRail s) := by
  have hdrop : Changes s (changeRail .down s) := changes_changeRail (fun h => nomatch h) fun _ => hconf
  unfold judgeRail
  dsimp only
  split
  next hdown => exact (changes_changeRail (fun _ => hdown) fun _ => hconf).ite (Changes.refl s)
  next => exact hdrop.ite (Changes.refl s)
  next => exact hdrop.ite (changes_railTimer _ rfl)
  next => exact hdrop.ite (changes_railTimer _ rfl)

theorem changes_railReading (v : Nat) (s : State) : Changes s (railReading v s) := by
  have hread : Changes s (s.onPins fun p => { p with rail := v }) := changes_of_watched (t := s.onPins _) rfl
  unfold railReading
  dsimp only
  split
  next h => exact hread.trans (changes_judgeRail (not_unconfigured_of_railJudged h))
  next => exact hread

theorem changes_lineAsserted (s : State) : Changes s (lineAsserted s) := by
  unfold lineAsserted
  dsimp only
  split
  · have hseen : Changes s (assertionSeen s) := changes_of_watched (t := assertionSeen s) rfl
    exact (hseen.trans (changes_enterSafe _)).ite hseen
  · exact changes_of_watched (t := s.onPins _) rfl

theorem changes_lineReleased (s : State) : Changes s (lineReleased s) := by
  unfold lineReleased
  refine Changes.ite (Changes.refl s) (Changes.ite ?_ ?_)
  · exact changes_of_watched (t := (s.onPins _).onFaultLine _) rfl
  · exact changes_of_watched (t := s.onPins _) rfl

theorem changes_releaseSettled (s : State) : Changes s (releaseSettled s) := by
  unfold releaseSettled
  refine Changes.ite ?_ (Changes.refl s)
  exact ((Change.normal _ rfl).changes.unwatched (watched_markDraw _)).unwatched (watched_promptScan _)

/-! ### The link unit -/

theorem changes_link (f : LinkUnit → LinkUnit) (hs : ¬Unconfigured s) (ht : ¬Unconfigured (s.onLink f))
    (hpeers : (f s.link).peers = s.link.peers) : Changes s (s.onLink f) := (Change.link f hs ht hpeers).changes

/-- R142: what an entry to DUPLICATE does once the link is there. -/
theorem changes_duplicateEntered (s : State) : Changes (s.onLink fun l =>
    { l with state := .duplicate, listenWindow := none, announcedTimer := none, silence := none })
    (enterDuplicate s) := by
  refine Changes.unwatched ?_ (watched_noteLink _)
  refine Changes.trans ?_ (changes_cutTransmit _)
  refine Changes.trans ?_ (changes_endQueuedChannels _)
  refine Changes.unwatched ?_ (watched_flushQueue _)
  exact changes_of_watched (t := (raise .duplicate (s.onLink _)).onFaultLine _) rfl

theorem changes_enterDuplicate (hconf : ¬Unconfigured s) : Changes s (enterDuplicate s) :=
  (changes_link _ hconf (by simp [Unconfigured]) rfl).trans (changes_duplicateEntered s)

theorem changes_enterAnnounced (hconf : ¬Unconfigured s) : Changes s (enterAnnounced s) :=
  (changes_link _ hconf (by simp [Unconfigured]) rfl).unwatched (watched_noteLink _)

theorem changes_enterArmed (hconf : ¬Unconfigured s) : Changes s (enterArmed s) :=
  (changes_link _ hconf (by simp [Unconfigured]) rfl).unwatched (watched_noteLink _)

theorem changes_loseLink (hconf : ¬Unconfigured s) : Changes s (loseLink s) := by
  unfold loseLink
  refine Changes.unwatched (Changes.trans ?_ (changes_cutTransmit _)) (watched_noteLink _)
  refine ((changes_link _ hconf ?_ rfl).unwatched (watched_raise _ .linkLost)).unwatched (watched_withdraw _)
  simp [Unconfigured]

theorem watched_setDegraded (d : Bool) (s : State) : watched (setDegraded d s) = watched s :=
  watched_markDraw (s.onLink _)

theorem watched_endWindow (s : State) : watched (endWindow s) = watched s := by
  unfold endWindow
  dsimp only
  split
  · split
    · rfl
    · exact watched_setDegraded true (s.onLink _)
  · split
    · split
      · exact watched_setDegraded false (s.onLink _)
      · rfl
    · rfl

theorem watched_noteFrame (bad : Bool) (s : State) : watched (noteFrame bad s) = watched s := by
  unfold noteFrame
  split
  · dsimp only
    split
    · exact watched_endWindow s
    · rfl
  · rfl

theorem changes_takeGood (s : State) : Changes s (takeGood s) :=
  (((changes_of_watched (s := s) (t := received s) rfl).trans (changes_count .good _)).unwatched
    (watched_heard _)).unwatched (watched_noteFrame false _)

theorem changes_takeOwnNumber (s : State) : Changes s (takeOwnNumber s) := by
  unfold takeOwnNumber
  split
  next => exact changes_of_watched (t := raise .duplicate (s.onLink _)) rfl
  next => exact changes_of_watched (watched_raise s .duplicate)
  next => exact changes_of_watched (watched_raise s .duplicate)
  next hoff hheld _ => exact changes_enterDuplicate (not_or.2 ⟨hoff, hheld⟩)

/-! ### The peer draw table -/

theorem mem_insertPeer {p x : Peer} {l : List Peer} (h : x ∈ insertPeer p l) : x = p ∨ x ∈ l := by
  induction l with
  | nil => exact .inl (List.mem_singleton.1 h)
  | cons y ys ih =>
    unfold insertPeer at h
    split at h
    · exact List.mem_cons.1 h
    · split at h
      · exact (List.mem_cons.1 h).imp_right (List.mem_cons_of_mem y)
      · rcases List.mem_cons.1 h with rfl | h
        · exact .inr List.mem_cons_self
        · exact (ih h).imp_right (List.mem_cons_of_mem y)

/-- R145: the table stays in order of station number, one entry to a station. -/
theorem insertPeer_ordered (p : Peer) {l : List Peer} (h : l.Pairwise fun p q => p.station < q.station) :
    (insertPeer p l).Pairwise fun p q => p.station < q.station := by
  induction l with
  | nil => exact List.pairwise_singleton _ p
  | cons y ys ih =>
    obtain ⟨hy, hys⟩ := List.pairwise_cons.1 h
    unfold insertPeer
    split
    next hlt =>
      refine List.pairwise_cons.2 ⟨fun x hx => ?_, h⟩
      rcases List.mem_cons.1 hx with rfl | hx
      · exact hlt
      · exact hlt.trans (hy x hx)
    next hle =>
      split
      next heq => exact List.pairwise_cons.2 ⟨fun x hx => heq ▸ hy x hx, hys⟩
      next hne =>
        refine List.pairwise_cons.2 ⟨fun x hx => ?_, ih hys⟩
        rcases mem_insertPeer hx with rfl | hx
        · omega
        · exact hy x hx

/-- R123, Table 8-9: the source of a DRAW frame that passes the filter. -/
theorem src_of_draw {own : Nat} {l : LinkState} {f : Frame} (h : destination own l f = .draw) :
    1 ≤ f.src ∧ f.src ≤ 30 ∧ f.src ≠ own ∧ l ≠ .offline := by
  unfold destination at h
  split at h
  · exact nomatch h
  split at h
  · exact nomatch h
  split at h
  · exact nomatch h
  split at h
  · exact nomatch h
  split at h
  · exact nomatch h
  split at h
  · exact nomatch h
  split at h
  · exact nomatch h
  next hsrc hown _ _ _ haddress _ =>
    unfold ownerOf at h
    split at h
    · exact nomatch h
    split at h
    · exact nomatch h
    next hoff =>
      split at h
      next hkind =>
        have hne : f.src ≠ 31 := fun h31 => haddress (by simp [addressSuits, hkind, h31])
        obtain ⟨hzero, hhigh⟩ := not_or.1 hsrc
        exact ⟨by omega, by omega, hown, hoff⟩
      all_goals exact nomatch h

theorem changes_takeDraw {f : Frame} (h : destination (ownNumber s) s.link.state f = .draw) :
    Changes s (takeDraw f s) := by
  obtain ⟨hlo, hhi, hown, hoff⟩ := src_of_draw h
  unfold takeDraw
  split
  · exact changes_count .ignored s
  next hheld =>
    refine (Change.peers (s := s) (t := promptScan (s.onLink _)) rfl ?_).changes
    rintro ⟨hsorted, hrange, -, hload⟩
    refine ⟨insertPeer_ordered _ hsorted, fun p hp => ?_, fun hu => absurd hu (not_or.2 ⟨hoff, hheld⟩), hload⟩
    rcases mem_insertPeer hp with rfl | hp
    · exact ⟨hlo, hhi, hown⟩
    · exact hrange p hp

/-- R146: entries of the peer draw table change in place, but not their stations, or leave. -/
theorem changes_of_peers (hw : watched t = { watched s with peers := t.link.peers })
    (hsub : (t.link.peers.map Peer.station).Sublist (s.link.peers.map Peer.station)) : Changes s t := by
  have hstart : t.startUp = s.startUp := congrArg Watched.startUp hw
  have hlink : t.link.state = s.link.state := congrArg Watched.link hw
  refine (Change.peers hw ?_).changes
  rintro ⟨hsorted, hrange, hempty, hload⟩
  refine ⟨?_, fun p hp => ?_, fun hu => ?_, ?_⟩
  · exact List.pairwise_map.1 ((List.pairwise_map.2 hsorted : (s.link.peers.map Peer.station).Pairwise (· < ·)).sublist hsub)
  · obtain ⟨q, hq, heq⟩ := List.mem_map.1 (hsub.subset (List.mem_map_of_mem hp))
    have hq' := hrange q hq
    rwa [heq, show ownNumber s = ownNumber t by rw [ownNumber, ownNumber, hstart]] at hq'
  · rw [hempty (by rwa [Unconfigured, hlink] at hu)] at hsub
    exact List.map_eq_nil_iff.1 (List.sublist_nil.1 hsub)
  · rwa [LoadsOffline, hstart, hlink]

theorem changes_makeStale (n : Nat) (s : State) : Changes s (makeStale n s) := by
  unfold makeStale
  refine Changes.ite ?_ (Changes.refl s)
  refine changes_of_peers (t := raise .peerStale (promptScan (s.onLink _))) rfl ?_
  have hsame : (s.link.peers.map fun p => if p.station = n then { p with stale := true } else p).map Peer.station =
      s.link.peers.map Peer.station := by
    rw [List.map_map]
    refine List.map_congr_left fun p _ => ?_
    dsimp only [Function.comp_apply]
    split <;> rfl
  exact hsame ▸ List.Sublist.refl _

theorem changes_removePeer (n : Nat) (s : State) : Changes s (removePeer n s) := by
  unfold removePeer
  refine Changes.ite ?_ (Changes.refl s)
  exact changes_of_peers (t := raise .peerLost (promptScan (s.onLink _))) rfl (List.filter_sublist.map _)

/-! ### Lamps -/

/-- R109, R110, R112 of the lamp unit `u`, by the lamp records in force. -/
structure LampsSound (cfg : Vector LampSettings 24) (u : LampUnit) : Prop where
  nodup : u.queue.Nodup
  waiting : ∀ n : LampNo, u.lamps[n].stage = .waiting ↔ n ∈ u.queue
  incandescent : ∀ n ∈ u.queue, cfg[n].incandescent = true

theorem lampsHold_iff : LampsHold s ↔ LampsSound s.settings.lamps s.lamps ∧
    (Unconfigured s → s.lamps.queue = [] ∧ ∀ n : LampNo, s.lamps.lamps[n].mode = .dark ∧
      s.lamps.lamps[n].flash = none ∧ s.lamps.lamps[n].stage = .dark) ∧ LoadsOffline s :=
  ⟨fun ⟨h1, h2, h3, h4⟩ => ⟨⟨h1, h2, h3⟩, h4⟩, fun ⟨⟨h1, h2, h3⟩, h4⟩ => ⟨h1, h2, h3, h4⟩⟩

/-- With a configuration in force, the lamps may be any that are sound. -/
theorem lampsHold_of_configured (hconf : ¬Unconfigured s) (hload : LoadsOffline s)
    (h : LampsSound s.settings.lamps s.lamps) : LampsHold s :=
  lampsHold_iff.2 ⟨h, fun hu => absurd hu hconf, hload⟩

/-- R109: a lamp waits as its demand is LIT, and it is incandescent and was DARK, or waited already. -/
theorem lampGiven_waiting (cfg : LampSettings) (ch : LampChannel) (m : LampMode) (f : Option Flash) :
    (lampGiven cfg ch m f).stage = .waiting ↔
      cfg.incandescent = true ∧ demands m f = true ∧ (ch.stage = .dark ∨ ch.stage = .waiting) := by
  unfold lampGiven
  cases hlit : demands m f
  · simp
  · cases hinc : cfg.incandescent
    · simp
    · by_cases hdark : ch.stage = .dark <;> simp [hdark]

/-- R108 to R111: a lamp given a mode and a flash record leaves the start queue, or joins it, with its stage. -/
theorem LampsSound.given {cfg : Vector LampSettings 24} {u : LampUnit} (h : LampsSound cfg u) (n : LampNo)
    (new : LampNo → LampMode × Option Flash) : LampsSound cfg (lampsGiven cfg [n] new u) := by
  have hlamp : ∀ m : LampNo, (lampsGiven cfg [n] new u).lamps[m] =
      if m = n then lampGiven cfg[m] u.lamps[m] (new m).1 (new m).2 else u.lamps[m] := fun m => by
    rw [lampsGiven_lamp]
    simp only [List.mem_singleton]
  have hqueue : (lampsGiven cfg [n] new u).queue = if cfg[n].incandescent = true then
          if demands (new n).1 (new n).2 = true then
            if u.lamps[n].stage = .dark then u.queue ++ [n] else u.queue
          else u.queue.filter fun m => m ≠ n
        else u.queue := by rw [lampsGiven_singleton]
  have hself : n ∈ u.queue → cfg[n].incandescent = true ∧ u.lamps[n].stage = .waiting := fun hn =>
    ⟨h.incandescent n hn, (h.waiting n).2 hn⟩
  have hwait : ∀ m : LampNo, (lampsGiven cfg [n] new u).lamps[m].stage = .waiting ↔
      if m = n then (lampGiven cfg[n] u.lamps[n] (new n).1 (new n).2).stage = .waiting else m ∈ u.queue := fun m => by
    rw [hlamp]
    by_cases hm : m = n
    · subst hm
      rw [if_pos rfl, if_pos rfl]
    · rw [if_neg hm, if_neg hm]
      exact h.waiting m
  constructor
  · rw [hqueue]
    split
    · split
      · split
        next hdark => exact h.nodup.append (List.nodup_singleton n) (List.disjoint_singleton.2 fun hn => by
            have hw := (hself hn).2
            rw [hdark] at hw
            exact nomatch hw)
        · exact h.nodup
      · exact h.nodup.filter _
    · exact h.nodup
  · intro m
    rw [hwait m, hqueue]
    have hmem := h.waiting n
    by_cases hm : m = n
    · subst hm
      rw [if_pos rfl, lampGiven_waiting]
      split
      next hinc =>
        split
        next hlit =>
          split
          next hdark => exact iff_of_true ⟨hinc, hlit, .inl hdark⟩ (by simp)
          next hdark => exact ⟨fun ⟨_, _, hst⟩ => hmem.1 (hst.resolve_left hdark), fun hq => ⟨hinc, hlit, .inr (hmem.2 hq)⟩⟩
        next hlit => exact iff_of_false (fun ⟨_, h, _⟩ => hlit h) (by simp)
      next hinc => exact iff_of_false (fun ⟨h, _⟩ => hinc h) fun hq => hinc (hself hq).1
    · rw [if_neg hm]
      split
      · split
        · split <;> simp [hm]
        · simp [hm]
      · rfl
  · intro m hm
    rw [hqueue] at hm
    split at hm
    next hinc =>
      split at hm
      · split at hm
        · rcases List.mem_append.1 hm with hm | hm
          · exact h.incandescent m hm
          · rw [List.mem_singleton.1 hm]
            exact hinc
        · exact h.incandescent m hm
      · exact h.incandescent m (List.mem_of_mem_filter hm)
    next => exact h.incandescent m hm

/-- A command or an expiry replaces only the mode and the flash record of a lamp. -/
abbrev ModeOnly (g : LampChannel → LampChannel) : Prop :=
  ∀ ch, g ch = { ch with mode := (g ch).mode, flash := (g ch).flash }

theorem applyMode_modeOnly (cmd : ModeCommand) : ModeOnly (applyMode cmd) := fun ch => by cases cmd <;> rfl

theorem watched_onlyLamps (h : Framed [.lamps] s t) :
    watched t = { watched s with lamps := t.lamps.lamps, lampQueue := t.lamps.queue } := by
  obtain ⟨hpending, hsame⟩ := h
  have hpins : t.pins = s.pins := hsame .pins (by simp)
  have hretained : t.retained = s.retained := hsame .retained (by simp)
  have hstart : t.startUp = s.startUp := hsame .startUp (by simp)
  have hsettings : t.settings = s.settings := hsame .settings (by simp)
  have hlink : t.link = s.link := hsame .link (by simp)
  have hsched : t.sched = s.sched := hsame .sched (by simp)
  have hcoils : t.coils = s.coils := hsame .coils (by simp)
  have hswitches : t.switches = s.switches := hsame .switches (by simp)
  have hbus : t.bus = s.bus := hsame .bus (by simp)
  have hrail : t.rail = s.rail := hsame .rail (by simp)
  have hfault : t.faultLine = s.faultLine := hsame .faultLine (by simp)
  have hservice : t.service = s.service := hsame .service (by simp)
  simp only [watched, hpending, hpins, hretained, hstart, hsettings, hlink, hsched, hcoils, hswitches, hbus, hrail,
    hfault, hservice]

theorem changes_lamps (hframe : Framed [.lamps] s t) (h : LampsHold s → LampsHold t) : Changes s t :=
  (Change.lamps (watched_onlyLamps hframe) h).changes

theorem lampsSound_setLampChannel {g : LampChannel → LampChannel} (hg : ModeOnly g) (n : LampNo)
    (h : LampsSound s.settings.lamps s.lamps) :
    LampsSound (setLampChannel n g s).settings.lamps (setLampChannel n g s).lamps := by
  have hsettings : (setLampChannel n g s).settings = s.settings := setLampChannel_framed.2 .settings (by simp)
  rw [hsettings, setLampChannel_lamps (hg _)]
  exact h.given n _

theorem changes_setLampChannel {g : LampChannel → LampChannel} (hg : ModeOnly g) (n : LampNo)
    (hconf : LampsHold s → ¬Unconfigured s) : Changes s (setLampChannel n g s) := by
  have hframe : Framed [.lamps] s (setLampChannel n g s) := setLampChannel_framed
  have hlink : (setLampChannel n g s).link = s.link := hframe.2 .link (by simp)
  have hstart : (setLampChannel n g s).startUp = s.startUp := hframe.2 .startUp (by simp)
  refine changes_lamps hframe fun h => ?_
  obtain ⟨hsound, -, hload⟩ := lampsHold_iff.1 h
  refine lampsHold_of_configured ?_ ?_ (lampsSound_setLampChannel hg n hsound)
  · rw [Unconfigured, hlink]
    exact hconf h
  · rwa [LoadsOffline, hlink, hstart]

theorem changes_lampCommand (n : LampNo) (cmd : ModeCommand) (hconf : ¬Unconfigured s) :
    Changes s (lampCommand n cmd s) :=
  changes_setLampChannel (applyMode_modeOnly cmd) n fun _ => hconf

theorem changes_commandLamps (ns : List LampNo) (mode half n : Nat) (final : Bool) (hconf : ¬Unconfigured s) :
    Changes s (commandLamps ns mode half n final s) := by
  unfold commandLamps
  refine (List.foldlRecOn (motive := fun u => Changes s u ∧ u.link = s.link) ns _ ⟨Changes.refl s, rfl⟩
    fun u ⟨hu, hlink⟩ m _ => ?_).1
  split
  · exact ⟨hu, hlink⟩
  · refine ⟨hu.trans (changes_lampCommand _ _ (by rwa [Unconfigured, hlink])), ?_⟩
    exact ((lampCommand_framed _ _ u).2 .link (by simp)).trans hlink

theorem not_unconfigured_of_lampsRun (h : lampsRun s.link.state = true) : ¬Unconfigured s := by
  rintro (hu | hu) <;> simp [hu, lampsRun] at h

theorem changes_takeLampFrame (payload : List Byte) (s : State) : Changes s (takeLampFrame payload s) := by
  unfold takeLampFrame
  dsimp only
  split
  next h =>
    simp only [Bool.and_eq_true] at h
    obtain ⟨⟨hruns, -⟩, -⟩ := h
    exact changes_commandLamps _ _ _ _ _ (not_unconfigured_of_lampsRun hruns)
  next => exact changes_count .ignored s

theorem changes_lampHalf (n : LampNo) (s : State) : Changes s (lampHalf n s) := by
  unfold lampHalf
  split
  · exact Changes.refl s
  next f hflash =>
    refine Changes.ite (changes_setLampChannel halfExpired_eq n fun h hu => ?_) (Changes.refl s)
    obtain ⟨-, hdark⟩ := (lampsHold_iff.1 h).2.1 hu
    rw [(hdark n).2.1] at hflash
    exact nomatch hflash

/-- R112: the lamps that leave the head of the queue warm; nothing else of the lamp unit changes. -/
theorem foldl_startWarmUp (ns : List LampNo) (u : LampUnit) :
    ns.foldl (fun u n => startWarmUp n u) u =
        { u with lamps := (ns.foldl (fun u n => startWarmUp n u) u).lamps } ∧
      ∀ m : LampNo, (ns.foldl (fun u n => startWarmUp n u) u).lamps[m] = if m ∈ ns
        then { u.lamps[m] with stage := .warming, warmUp := some (startTimer warmUpTime) } else u.lamps[m] := by
  induction ns generalizing u with
  | nil => exact ⟨rfl, fun m => rfl⟩
  | cons n ns ih =>
    obtain ⟨hunit, hlamp⟩ := ih (startWarmUp n u)
    refine ⟨hunit, fun m => ?_⟩
    rw [List.foldl_cons, hlamp m]
    by_cases hmn : m = n
    · subst hmn
      simp [startWarmUp]
    · have hsame : (startWarmUp n u).lamps[m] = u.lamps[m] :=
        Vector.getElem_set_ne n.isLt m.isLt fun hval => hmn (Fin.ext hval.symm)
      simp [hsame, hmn]

/-- R112: the lamp unit after a phase expiry. -/
theorem lampPhase_lamps (hdue : lampPhaseDue s = true) :
    (∀ m : LampNo, (lampPhase s).lamps.lamps[m] = if m ∈ s.lamps.queue.take 4
      then { s.lamps.lamps[m] with stage := .warming, warmUp := some (startTimer warmUpTime) }
      else s.lamps.lamps[m]) ∧
    (lampPhase s).lamps = { s.lamps with lamps := (lampPhase s).lamps.lamps, queue := s.lamps.queue.drop 4
                                         phase := some (startTimer lampPhasePeriod) } := by
  obtain ⟨hunit, hlamp⟩ := foldl_startWarmUp (s.lamps.queue.take 4) s.lamps
  have hphase : lampPhase s = s.onLamps fun u => { (u.queue.take 4).foldl (fun u n => startWarmUp n u) u with
      queue := u.queue.drop 4, phase := some (startTimer lampPhasePeriod) } := if_pos hdue
  rw [hphase]
  refine ⟨hlamp, ?_⟩
  rw [State.onLamps_lamps, hunit]

theorem lampPhase_framed (s : State) : Framed [.lamps] s (lampPhase s) := by
  unfold lampPhase
  split
  · exact onLamps_framed _ s
  · exact Framed.refl _ s

theorem lampsHold_lampPhase (hdue : lampPhaseDue s = true) (h : LampsHold s) : LampsHold (lampPhase s) := by
  obtain ⟨hlamp, hunit⟩ := lampPhase_lamps hdue
  obtain ⟨hsound, hdark, hload⟩ := lampsHold_iff.1 h
  have hqueue : (lampPhase s).lamps.queue = s.lamps.queue.drop 4 := congrArg LampUnit.queue hunit
  have hsame := (lampPhase_framed s).2
  have hsettings : (lampPhase s).settings = s.settings := hsame .settings (by simp)
  have hlink : (lampPhase s).link = s.link := hsame .link (by simp)
  have hstart : (lampPhase s).startUp = s.startUp := hsame .startUp (by simp)
  refine lampsHold_iff.2 ⟨⟨?_, fun m => ?_, fun m hm => ?_⟩, fun hu => ?_, ?_⟩
  · rw [hqueue]
    exact hsound.nodup.sublist (List.drop_sublist 4 _)
  · rw [hqueue, hlamp m]
    have hsplit : m ∈ s.lamps.queue ↔ m ∈ s.lamps.queue.take 4 ∨ m ∈ s.lamps.queue.drop 4 := by
      rw [← List.mem_append, List.take_append_drop]
    split
    next hm =>
      have hnot : m ∉ s.lamps.queue.drop 4 := List.disjoint_take_drop hsound.nodup le_rfl hm
      simp [hnot]
    next hm => rw [hsound.waiting m, hsplit, or_iff_right hm]
  · rw [hqueue] at hm
    rw [hsettings]
    exact hsound.incandescent m (List.mem_of_mem_drop hm)
  · obtain ⟨hempty, hall⟩ := hdark (by rwa [Unconfigured, hlink] at hu)
    refine ⟨by rw [hqueue, hempty]; rfl, fun m => ?_⟩
    rw [hlamp m, hempty, if_neg (by simp)]
    exact hall m
  · rwa [LoadsOffline, hlink, hstart]

theorem changes_lampPhase (s : State) : Changes s (lampPhase s) := by
  by_cases hdue : lampPhaseDue s = true
  · exact changes_lamps (lampPhase_framed s) (lampsHold_lampPhase hdue)
  · rw [lampPhase, if_neg hdue]
    exact Changes.refl s

theorem warmUpDue_iff {n : LampNo} : warmUpDue n s = true ↔
    s.lamps.lamps[n].stage = .warming ∧ timerReached s.lamps.lamps[n].warmUp = true := by
  rw [warmUpDue, Bool.and_eq_true, decide_eq_true_iff]

theorem changes_warmUp (n : LampNo) (s : State) : Changes s (warmUp n s) := by
  unfold warmUp
  split
  next hdue =>
    obtain ⟨hwarming, -⟩ := warmUpDue_iff.1 hdue
    refine changes_lamps (onLamps_framed _ s) fun h => ?_
    obtain ⟨hsound, hdark, hload⟩ := lampsHold_iff.1 h
    refine lampsHold_iff.2 ⟨⟨hsound.nodup, fun m => ?_, hsound.incandescent⟩, fun hu => ?_, hload⟩
    · by_cases hm : m = n
      · subst hm
        have hnot : m ∉ s.lamps.queue := fun hm => by
          have hw := (hsound.waiting m).2 hm
          rw [hwarming] at hw
          exact nomatch hw
        simp [hnot]
      · have hsame : (s.lamps.lamps.set n { s.lamps.lamps[n] with stage := .lit, warmUp := none })[m] =
            s.lamps.lamps[m] := Vector.getElem_set_ne n.isLt m.isLt fun hval => hm (Fin.ext hval.symm)
        simp only [State.onLamps_lamps, hsame]
        exact hsound.waiting m
    · have hstage := ((hdark hu).2 n).2.2
      rw [hwarming] at hstage
      exact nomatch hstage
  next => exact Changes.refl s

end

end Sys2Proof.Machine
end

section
/-! Coil requests, the rows of the table and the passing of time, as chains of primitive changes: `exec_changes`. -/

namespace Sys2Proof.Machine

section
variable {s t : State}

/-! ### Coil requests and the reflex walk -/

theorem changes_queueFull (s : State) : Changes s (raise .queueFull (count .queueFull s)) :=
  (changes_count .queueFull s).unwatched (watched_raise _ .queueFull)

theorem changes_createEntry (c : CoilNo) (k : EntryKind) (n : Nat) (o : Origin) (s : State) :
    Changes s (createEntry c k n o s) := changes_of_watched (s := s) (t := createEntry c k n o s) rfl

theorem changes_pulseRequest (c : CoilNo) (n : Nat) (o : Origin) (s : State) :
    Changes s (pulseRequest c n o s).1 := by
  unfold pulseRequest
  split
  · exact Changes.trans (changes_of_watched (s := s) (t := s.onSched _) rfl) (changes_count .merged _)
  · split
    · exact changes_createEntry c .pulses n o s
    · exact changes_queueFull s

theorem changes_engageRequest (c : CoilNo) (o : Origin) (s : State) : Changes s (engageRequest c o s).1 := by
  unfold engageRequest
  split
  · exact changes_count .merged s
  · split
    · exact changes_count .merged s
    · split
      · exact changes_createEntry c .engage 1 o s
      · exact changes_queueFull s

theorem changes_releaseRequest (c : CoilNo) (s : State) : Changes s (releaseRequest c s).1 := by
  unfold releaseRequest
  split
  · exact changes_of_watched (watched_removeEntry s c)
  · split
    next hhold => exact changes_enterRest (.inr hhold)
    next => exact Changes.refl s

theorem changes_request (c : CoilNo) (a : CoilAction) (n : Nat) (o : Origin) (s : State) :
    Changes s (request c a n o s).1 := by
  rcases request_passes_or_counted s c a n o with hpass | ⟨k, hk⟩
  · rw [request_of_passes s c a n o hpass]
    cases a
    case pulse => exact changes_pulseRequest c n o s
    case engage => exact changes_engageRequest c o s
    case release => exact changes_releaseRequest c s
  · rw [hk]
    exact changes_count k s

theorem changes_answerList (o : Origin) (l : List CoilRequest) (s : State) : Changes s (answerList o l s) :=
  Changes.foldl _ l (fun s (r : CoilRequest) => changes_request r.coil r.action r.pulses o s) s

theorem changes_applyAction (a : ReflexAction) (w : State × List CoilRequest) (hconf : ¬Unconfigured w.1) :
    Changes w.1 (applyAction a w).1 := by
  cases a
  case pulse | engage | release => exact Changes.refl _
  case lampOn n | lampOff n | lampToggle n | lampFlash n k => exact changes_lampCommand n _ hconf

theorem changes_walk (src sw : Nat) (k : EdgeKind) (hconf : ¬Unconfigured s) : Changes s (walk src sw k s).1 := by
  unfold walk
  refine (List.foldlRecOn (motive := fun w : State × List CoilRequest => Changes s w.1 ∧ w.1.link = s.link) _ _
    ⟨Changes.refl s, rfl⟩ fun w ⟨hw, hlink⟩ slot _ => ?_).1
  unfold walkEntry
  cases slot with
  | none => exact ⟨hw, hlink⟩
  | some e =>
    dsimp only
    split
    · refine ⟨hw.trans (changes_applyAction e.action w (by rwa [Unconfigured, hlink])), ?_⟩
      exact ((applyAction_framed e.action w).2 .link (by simp)).trans hlink
    · exact ⟨hw, hlink⟩

theorem changes_walkAnswered (src sw : Nat) (k : EdgeKind) (o : Origin) (hconf : ¬Unconfigured s) :
    Changes s (answerList o (walk src sw k s).2 (walk src sw k s).1) :=
  (changes_walk src sw k hconf).trans (changes_answerList o _ _)

theorem changes_localEdge (src : Nat) (sw : SwitchNo) (k : EdgeKind) (s : State) :
    Changes s (localEdge src sw k s) := by
  unfold localEdge
  split
  next hw => exact changes_walkAnswered _ _ _ _ (by rintro (hu | hu) <;> simp [hu, walksLocal] at hw)
  next => exact Changes.refl s

theorem changes_remoteEdge (src sw : Nat) (k : EdgeKind) (s : State) : Changes s (remoteEdge src sw k s) := by
  unfold remoteEdge
  split
  next hw => exact changes_walkAnswered _ _ _ _ (by rintro (hu | hu) <;> simp [hu, walksRemote] at hw)
  next => exact Changes.refl s

/-! ### The scan and the announce -/

theorem watched_enterAnnouncing (c : CoilNo) (s : State) : watched (enterAnnouncing c s) = watched s :=
  watched_noteDraw ..

theorem changes_scanQueue (s : State) : Changes s (scanQueue s) := by
  unfold scanQueue
  split
  · exact Changes.refl s
  next e he =>
    have hkick : Changes s (startKick e.coil s) := changes_startKick (candidate_eligible he)
    split
    · unfold scanAlone
      exact (hkick.ite (changes_of_watched (watched_enterAnnouncing e.coil s))).ite (Changes.refl s)
    · unfold scanAhead
      exact (Changes.refl s).ite (hkick.ite (Changes.refl s))

theorem changes_scan (s : State) : Changes s (scan s) := by
  unfold scan
  refine Changes.ite ?_ (Changes.refl s)
  exact Changes.trans (changes_of_watched (s := s) (t := s.onSched _) rfl) (changes_scanQueue _)

theorem changes_announceExpired (s : State) : Changes s (announceExpired s) :=
  (changes_of_watched (watched_withdraw s)).ite (Changes.refl s)

theorem changes_waitExpired (c : CoilNo) (s : State) : Changes s (waitExpired c s) := by
  unfold waitExpired
  refine Changes.ite (Changes.unwatched ?_ (watched_raise _ .expired)) (Changes.refl s)
  exact (changes_of_watched (watched_removeEntry s c)).trans (changes_count .expired _)

theorem changes_retest (s : State) : Changes s (retest s) := by
  unfold retest
  split
  · exact Changes.refl s
  · exact (changes_of_watched (s := s) (t := s.onSched _) rfl).ite (changes_of_watched (watched_withdraw s))

theorem changes_startAnnounced (s : State) : Changes s (startAnnounced s) := by
  unfold startAnnounced
  split
  · exact Changes.refl s
  next a ha =>
    split
    · split
      next hel =>
        obtain ⟨-, -, -, hidle, -⟩ := (eligible_iff s a.coil).1 hel
        have hemptied : Changes s (s.onSched fun q => { q with announce := none }) :=
          changes_of_watched (s := s) (t := s.onSched _) rfl
        exact ((hemptied.trans (changes_startKickRaw hidle (not_heldOff_of_eligible hel))).unwatched
          (watched_noteDraw ..)).unwatched (watched_promptScan _)
      next => exact changes_of_watched (watched_withdraw s)
    · exact Changes.refl s

theorem changes_drawCompleted (n : Nat) (s : State) : Changes s (drawCompleted n s) := by
  unfold drawCompleted
  exact (changes_startAnnounced s).ite ((changes_startAnnounced s).unwatched (watched_markDraw _))

/-! ### The coil channels' rows -/

variable {c : CoilNo}

theorem changes_kickEnds (hkick : s.coils[c].state = .kick) : Changes s (kickEnds c s) := by
  unfold kickEnds
  dsimp only
  split
  · exact changes_enterRest (.inl hkick)
  · exact changes_moveChannel (mayMove_held hkick _ _)
  · exact changes_moveChannel (mayMove_held hkick _ _)

theorem releaseMarked_state (on : Bool) : (releaseMarked s c on).coils[c].state = s.coils[c].state := by
  rw [releaseMarked_coil]

theorem changes_holdEnds (hhold : s.coils[c].state = .hold) : Changes s (holdEnds c s) := by
  have hmarked : Changes s (enterRest c (releaseMarked s c true)) :=
    (changes_releaseMarked true c s).trans (changes_enterRest (.inr (by rw [releaseMarked_state, hhold])))
  unfold holdEnds
  exact hmarked.ite (changes_enterRest (.inr hhold))

theorem CoilChannel.sensed_coherent {ch : CoilChannel} (r : Sense) (h : ch.Coherent) : (ch.sensed r).Coherent := by
  obtain ⟨hkind, hkick, hrest, hduty, hhold, hoff⟩ := h
  unfold CoilChannel.sensed
  split
  · exact ⟨hkind, hkick, hrest, hduty, hhold, hoff⟩
  next hon =>
    have hnot : commandedOn ch.state = false := by simpa using hon
    split
    · exact ⟨hkind, hkick, hrest, hduty, hhold, fun _ => hnot⟩
    · split
      · exact ⟨hkind, hkick, hrest, hduty, hhold, fun _ => hnot⟩
      · exact ⟨hkind, hkick, hrest, hduty, hhold, hoff⟩

/-- R60, R61, R63: a reading at the pin, and in the channel's own record. -/
def senseRecorded (c : CoilNo) (r : Sense) (s : State) : State :=
  (s.onPins fun p => { p with sense := p.sense.set c r }).onCoils fun v => v.set c (v[c].sensed r)

theorem senseChanges_eq (c : CoilNo) (r : Sense) (s : State) : senseChanges c r s =
    if senseJudged s.link.state then
      if r = .over ∧ (senseRecorded c r s).coils[c].state ≠ .fault then enterFault c .short (senseRecorded c r s)
      else senseRecorded c r s
    else s.onPins fun p => { p with sense := p.sense.set c r } := rfl

theorem changes_senseRecorded (c : CoilNo) (r : Sense) (s : State) : Changes s (senseRecorded c r s) := by
  have hread : Changes s (s.onPins fun p => { p with sense := p.sense.set c r }) :=
    changes_of_watched (s := s) (t := s.onPins _) rfl
  exact hread.trans (Change.record (s := s.onPins _) (c := c) (CoilChannel.sensed_state s.coils[c] r)
    (CoilChannel.sensed_coherent r)).changes

theorem changes_senseChanges (c : CoilNo) (r : Sense) (s : State) : Changes s (senseChanges c r s) := by
  rw [senseChanges_eq]
  split
  next hjudged =>
    have hconf : ¬Unconfigured (senseRecorded c r s) := configured_of_senseJudged hjudged
    have hrecorded := changes_senseRecorded c r s
    exact (hrecorded.trans (changes_enterFault hconf c .short)).ite hrecorded
  next => exact changes_of_watched (s := s) (t := s.onPins _) rfl

theorem enterFault_state (c : CoilNo) (k : FaultKind) (s : State) : (enterFault c k s).coils[c].state = .fault := by
  have hcoils : (enterFault c k s).coils = _ := (reportFault_framed c k _).2 .coils (by simp)
  rw [hcoils, moveChannel_coil]
  rfl

theorem changes_restartOff (hfault : s.coils[c].state = .fault) : Changes s (restartOff c s) := by
  refine (Change.record ?_ ?_).changes
  · rfl
  · exact fun ⟨hkind, hkick, hrest, hduty, hhold, _⟩ =>
      ⟨hkind, hkick, hrest, hduty, hhold, fun _ => congrArg commandedOn hfault⟩

theorem changes_offCurrent (hconf : ¬Unconfigured s) (c : CoilNo) : Changes s (offCurrent c s) := by
  unfold offCurrent
  split
  next hfault =>
    split
    · exact changes_restartOff hfault
    · refine Changes.trans ?_ (changes_reportFault c .stuck _)
      refine (Change.record ?_ ?_).changes
      · rfl
      · exact fun ⟨_, hkick, hrest, hduty, hhold, _⟩ => ⟨iff_of_true (Option.some_ne_none _) hfault, hkick, hrest,
          hduty, hhold, fun _ => congrArg commandedOn hfault⟩
  next => exact (changes_enterFault hconf c .stuck).trans (changes_restartOff (enterFault_state c .stuck s))

/-! ### Flippers and switches -/

theorem changes_press (c : CoilNo) (s : State) : Changes s (press c s) := by
  unfold press
  split
  next h => exact changes_flipperKick (by rw [h.1]; decide) h.2
  next => exact Changes.refl s

theorem changes_releaseFlipper (c : CoilNo) (s : State) : Changes s (releaseFlipper c s) := by
  have hmarked := changes_releaseMarked false c s
  rw [releaseFlipper_eq]
  split
  next h => exact hmarked.trans (changes_enterRest (by rw [releaseMarked_state]; exact h))
  next => exact hmarked

theorem changes_flipperEdge (sw : SwitchNo) (k : EdgeKind) (s : State) : Changes s (flipperEdge sw k s) := by
  rw [flipperEdge_eq_foldl]
  refine Changes.foldl _ _ (fun u c => ?_) s
  unfold flipperTurn
  split
  · cases k
    case close => exact changes_press c u
    case opened => exact changes_releaseFlipper c u
  · exact Changes.refl u

theorem changes_appendSwitch (sw : SwitchNo) (k : EdgeKind) (s : State) : Changes s (appendSwitch sw k s) := by
  unfold appendSwitch
  refine Changes.ite ?_ (Changes.refl s)
  split
  next hroom =>
    refine (Change.transmit (s := s) (t := s.onBus _) rfl fun ⟨_, hreply⟩ => ⟨?_, ?_⟩).changes
    · simp only [State.onBus_bus, List.length_append, List.length_singleton]
      exact hroom
    · simpa [isReply] using hreply
  next => exact (changes_count .switchDrops s).unwatched (watched_raise _ .switchDrop)

/-- Only the record of switch `n`, and what its input reads, change. -/
theorem changes_switch {n : SwitchNo} {high : Bool} {r : SwitchRecord}
    (h : SwitchFollows s.settings.switches[n] s.pins.switchHigh[n] (takesEdges s.link.state) s.switches.records[n] →
      SwitchFollows s.settings.switches[n] high (takesEdges s.link.state) r) :
    Changes s ((s.onPins fun p => { p with switchHigh := p.switchHigh.set n high }).onSwitches fun u =>
      { u with records := u.records.set n r }) := by
  refine (Change.switches (s := s) (t := (s.onPins _).onSwitches _) rfl fun ⟨hall, hload⟩ => ⟨fun m => ?_, hload⟩).changes
  simp only [State.onSwitches_settings, State.onPins_settings, State.onSwitches_pins, State.onPins_pins,
    State.onSwitches_link, State.onPins_link, State.onSwitches_switches, State.onPins_switches]
  by_cases hm : m = n
  · subst hm
    have hhigh : (s.pins.switchHigh.set m high)[m] = high := Vector.getElem_set_self _
    have hrec : (s.switches.records.set m r)[m] = r := Vector.getElem_set_self _
    rw [hhigh, hrec]
    exact h (hall m)
  · have hval : n.val ≠ m.val := fun hval => hm (Fin.ext hval.symm)
    have hhigh : (s.pins.switchHigh.set n high)[m] = s.pins.switchHigh[m] := Vector.getElem_set_ne n.isLt m.isLt hval
    have hrec : (s.switches.records.set n r)[m] = s.switches.records[m] := Vector.getElem_set_ne n.isLt m.isLt hval
    rw [hhigh, hrec]
    exact hall m

theorem changes_record {n : SwitchNo} {r : SwitchRecord}
    (h : SwitchFollows s.settings.switches[n] s.pins.switchHigh[n] (takesEdges s.link.state) s.switches.records[n] →
      SwitchFollows s.settings.switches[n] s.pins.switchHigh[n] (takesEdges s.link.state) r) :
    Changes s (s.onSwitches fun u => { u with records := u.records.set n r }) := by
  have hpins : (s.onPins fun p => { p with switchHigh := p.switchHigh.set n s.pins.switchHigh[n] }) = s := by
    simp [State.onPins]
  have hchanges := changes_switch h
  rwa [hpins] at hchanges

/-- R83, R85: a switch whose timer has run its time reads the level it timed, which it then takes. -/
theorem switchFollows_settled {cfg : SwitchSettings} {high : Bool} {r r' : SwitchRecord}
    (hreached : qualifyReached r = true) (hlevel : r'.level = levelOf (qualifyClosed r)) (hstops : r'.qualify = none)
    (h : SwitchFollows cfg high true r) : SwitchFollows cfg high true r' := by
  unfold SwitchFollows at h ⊢
  rw [if_pos rfl] at h ⊢
  unfold qualifyReached at hreached
  split at hreached
  · exact nomatch hreached
  next q hq =>
    split at h
    · rw [hq] at h
      exact nomatch h
    · have hclosed : qualifyClosed r = judgedClosed cfg high := by
        rw [hq] at h
        rw [qualifyClosed, hq]
        exact Option.some.inj h
      rw [if_pos (by rw [hlevel, hclosed])]
      exact hstops

theorem edgeDue_takes {n : SwitchNo} (h : edgeDue n s = true) :
    takesEdges s.link.state = true ∧ qualifyReached s.switches.records[n] = true := by
  simp only [edgeDue, Bool.and_eq_true] at h
  exact ⟨h.1.1, h.2⟩

theorem adoptionDue_takes {n : SwitchNo} (h : adoptionDue n s = true) :
    takesEdges s.link.state = true ∧ qualifyReached s.switches.records[n] = true := by
  simp only [adoptionDue, Bool.and_eq_true] at h
  exact ⟨h.1.1, h.2⟩

theorem changes_adopt (n : SwitchNo) (s : State) : Changes s (adopt n s) := by
  unfold adopt
  split
  next hdue =>
    obtain ⟨htakes, hreached⟩ := adoptionDue_takes hdue
    refine changes_record fun h => ?_
    rw [htakes] at h ⊢
    exact switchFollows_settled hreached rfl rfl h
  next => exact Changes.refl s

theorem changes_takeEdge {n : SwitchNo} (hdue : edgeDue n s = true) : Changes s (takeEdge n s) := by
  obtain ⟨htakes, hreached⟩ := edgeDue_takes hdue
  have hrecorded : Changes s (edgeRecorded n s) := changes_record fun h => by
    rw [htakes] at h ⊢
    exact switchFollows_settled hreached rfl rfl h
  unfold takeEdge
  refine Changes.trans ?_ (changes_localEdge _ _ _ _)
  refine Changes.trans ?_ (changes_appendSwitch _ _ _)
  exact Changes.trans hrecorded (changes_flipperEdge _ _ _)

theorem switchFollows_inputChanged (cfg : SwitchSettings) (high : Bool) (r : SwitchRecord) :
    SwitchFollows cfg high true (r.inputChanged cfg (judgedClosed cfg high)) := by
  unfold SwitchFollows SwitchRecord.inputChanged
  rw [if_pos rfl]
  by_cases h : r.level = levelOf (judgedClosed cfg high)
  · rw [if_pos h, if_pos h]
  · rw [if_neg h, if_neg h]
    rfl

theorem changes_switchInput (n : SwitchNo) (high : Bool) (s : State) : Changes s (switchInput n high s) := by
  unfold switchInput
  refine Changes.ite (Changes.refl s) ?_
  dsimp only
  split
  next htakes =>
    have htakes' : takesEdges s.link.state = true := htakes
    refine changes_switch fun _ => ?_
    rw [htakes']
    exact switchFollows_inputChanged _ _ _
  next htakes =>
    have hno : takesEdges s.link.state = false := by simpa using htakes
    have hpins := changes_switch (s := s) (n := n) (high := high) (r := s.switches.records[n])
      (by rw [hno]; exact id)
    have hsame : (s.onPins fun p => { p with switchHigh := p.switchHigh.set n high }).onSwitches
        (fun u => { u with records := u.records.set n s.switches.records[n] }) =
        s.onPins fun p => { p with switchHigh := p.switchHigh.set n high } := by
      simp [State.onSwitches, State.onPins]
    rwa [hsame] at hpins

/-! ### Heat -/

theorem heatedAfter_le (cfg : CoilSettings) (ch : CoilChannel) (t : Nat) : heatedAfter cfg ch t ≤ 65535 :=
  min_le_left ..

theorem changes_heatChannel (c : CoilNo) (s : State) : Changes s (heatChannel c s) := by
  have hheated := (Change.heat s c (heatedAfter_le s.settings.coils[c] s.coils[c] s.retained.heat[c])).changes
  unfold heatChannel
  exact hheated.ite (hheated.unwatched (watched_promptScan _))

theorem changes_enterLockout (hfault : s.coils[c].state ≠ .fault) (hcls : s.settings.coils[c].cls ≠ .flipper)
    (hconf : ¬Unconfigured s) : Changes s (enterLockout c s) :=
  ((changes_moveChannel (mayMove_lockedOut hfault hcls hconf)).trans (changes_removeCounted .lockedOut c _)).unwatched
    (watched_raise _ .lockout)

theorem changes_classifyLockout (kept : Bool) (c : CoilNo) (hconf : ¬Unconfigured s) :
    Changes s (classifyLockout kept c s) := by
  unfold classifyLockout
  dsimp only
  split
  next h =>
    obtain ⟨hcls, -, hlockable⟩ := h
    exact changes_enterLockout (fun hfault => by rw [hfault] at hlockable; exact nomatch hlockable) hcls hconf
  next =>
    split
    next h => exact changes_moveChannel (mayMove_idle (by rw [h.1]; decide))
    next => exact Changes.refl s

theorem watched_onThermal (f : Thermal → Thermal) (s : State) : watched (s.onThermal f) = watched s := rfl

theorem changes_classifyLevel (c : CoilNo) (s : State) : Changes s (classifyLevel c s) := by
  unfold classifyLevel
  refine Changes.ite (Changes.refl s) ?_
  exact Changes.trans (changes_of_watched (s := s) (t := s.onThermal _) rfl) (changes_rechooseDuty c _)

theorem changes_thermalChannel (c : CoilNo) (hconf : ¬Unconfigured s) : Changes s (thermalChannel c s) := by
  have hlink : (heatChannel c s).link = s.link := (heatChannel_framed c s).2 .link (by simp)
  unfold thermalChannel
  refine Changes.trans ?_ (changes_classifyLevel c _)
  exact (changes_heatChannel c s).trans (changes_classifyLockout _ c (by rwa [Unconfigured, hlink]))

theorem changes_thermalInterval (s : State) : Changes s (thermalInterval s) := by
  unfold thermalInterval
  split
  next hdue =>
    have hconf := configured_of_thermalDue hdue
    have hall : Changes s (allCoils.foldl (fun s c => thermalChannel c s) s) := by
      refine (List.foldlRecOn (motive := fun u => Changes s u ∧ u.link = s.link) allCoils _ ⟨Changes.refl s, rfl⟩
        fun u ⟨hu, hlink⟩ c _ => ⟨?_, ?_⟩).1
      · exact hu.trans (changes_thermalChannel c (by rwa [Unconfigured, hlink]))
      · exact ((thermalChannel_framed c u).2 .link (by simp)).trans hlink
    exact hall.unwatched (watched_onThermal _ _)
  next => exact Changes.refl s

/-! ### Receiving -/

/-- R150: the check of a SWITCH frame against its record, if it has one, and the record's new value. -/
def edgeNoted (station sw seq : Nat) (e : EdgeKind) (s : State) : State :=
  match edgeRecordAt station sw s with
  | none => s
  | some r => recordEdge station sw seq e (if isGap r.last seq e then raise .switchGap (count .switchGaps s) else s)

theorem takeSwitch_eq (f : Frame) (s : State) : takeSwitch f s =
    remoteEdge f.src (byteAt f.payload 0) (edgeOf f.payload)
      (edgeNoted f.src (byteAt f.payload 0) (fieldAt f.payload 1 3 0) (edgeOf f.payload) s) := rfl

theorem watched_recordEdge (station sw seq : Nat) (e : EdgeKind) (s : State) :
    watched (recordEdge station sw seq e s) = watched s := rfl

theorem changes_edgeNoted (station sw seq : Nat) (e : EdgeKind) (s : State) :
    Changes s (edgeNoted station sw seq e s) := by
  unfold edgeNoted
  split
  · exact Changes.refl s
  next r _ =>
    have hgap : Changes s (if isGap r.last seq e then raise .switchGap (count .switchGaps s) else s) :=
      ((changes_count .switchGaps s).unwatched (watched_raise _ .switchGap)).ite (Changes.refl s)
    exact hgap.unwatched (watched_recordEdge ..)

theorem changes_takeSwitch (f : Frame) (s : State) : Changes s (takeSwitch f s) := by
  rw [takeSwitch_eq]
  exact (changes_edgeNoted _ _ _ _ s).trans (changes_remoteEdge _ _ _ _)

theorem watched_onBus {f : Bus → Bus} (s : State) (h : ∀ b, (f b).general = b.general) :
    watched (s.onBus f) = watched s := by
  simp only [watched, State.onBus_bus, h]
  rfl

theorem changes_endFragment (s : State) : Changes s (endFragment s) := by
  unfold endFragment
  refine Changes.ite ?_ (Changes.refl s)
  exact Changes.trans (changes_of_watched (s := s) (t := s.onBus _) rfl) (changes_count .fragments _)

theorem changes_startBit (s : State) : Changes s (startBit s) := by
  unfold startBit
  refine Changes.ite ?_ (Changes.refl s)
  split
  · exact changes_of_watched (s := s) (t := s.onBus _) rfl
  · exact (changes_endFragment s).unwatched (watched_onBus _ fun _ => rfl)

theorem changes_badReception (rx : List Byte) (s : State) : Changes s (badReception rx s) := by
  unfold badReception
  refine Changes.ite ?_ (Changes.refl s)
  exact (Changes.trans (changes_of_watched (s := s) (t := received s) rfl) (changes_count .bad _)).unwatched
    (watched_noteFrame true _)

theorem takeGood_ownNumber (s : State) : ownNumber (takeGood s) = ownNumber s := by
  have hstart : (takeGood s).startUp = s.startUp :=
    congrArg Watched.startUp ((watched_noteFrame false _).trans (watched_heard _))
  rw [ownNumber, ownNumber, hstart]

/-- The owner of a good frame takes it in the link state in which the filter sent it there. -/
theorem changes_goodRow {d : Destination} (rx : List Byte) {owner : Frame → State → State}
    (howner : ∀ f u, destination (ownNumber u) u.link.state f = d → Changes u (owner f u)) (s : State) :
    Changes s (goodRow d rx owner s) := by
  unfold goodRow
  split
  · exact Changes.refl s
  next f hf =>
    refine (changes_takeGood s).trans (howner f _ ?_)
    rw [takeGood_linkState, takeGood_ownNumber, goodFrameFor_destination hf]

theorem changes_takeFire (f : Frame) (s : State) : Changes s (takeFire f s) := by
  unfold takeFire
  split
  · exact Changes.refl s
  · exact changes_request _ _ _ _ s

/-! ### Service requests -/

/-- R126: the pending reply takes the place of the one there, or joins the tail where there is room. -/
theorem transmitHolds_placeReply (r : Reply) (htaken : requestTaken s.bus = true) (h : TransmitHolds s) :
    TransmitHolds (placeReply r s) := by
  obtain ⟨hlen, hreply⟩ := h
  unfold requestTaken at htaken
  unfold TransmitHolds placeReply
  simp only [State.onBus_bus]
  split at htaken
  next hany =>
    rw [if_pos hany]
    have hkind : ∀ g, isReply (if isReply g then .reply r else g) = isReply g := fun g => by
      cases g <;> rfl
    refine ⟨by rwa [List.length_map], ?_⟩
    rw [List.filter_map, List.length_map]
    simpa only [Function.comp_def, hkind] using hreply
  next hany =>
    rw [if_neg hany]
    have hnone : s.bus.general.filter isReply = [] := List.filter_eq_nil_iff.2 fun g hg hr =>
      hany (List.any_eq_true.2 ⟨g, hg, hr⟩)
    have hroom : s.bus.general.length < 15 := of_decide_eq_true htaken
    refine ⟨?_, ?_⟩
    · rw [List.length_append]
      exact hroom
    · rw [List.filter_append, hnone]
      rfl

theorem requestTaken_congr {b b' : Bus} (hgeneral : b'.general = b.general) (hseries : b'.series = b.series)
    (hwire : b'.wire = b.wire) : requestTaken b' = requestTaken b := by
  rw [requestTaken, requestTaken, replyOnWire, replyOnWire, hgeneral, hseries, hwire]

/-- A request that acts leaves the bus as it was but for the mark of the draw slot. -/
structure ActsBesideBus (s t : State) : Prop where
  changes : Changes s t
  general : t.bus.general = s.bus.general
  series : t.bus.series = s.bus.series
  wire : t.bus.wire = s.bus.wire

theorem ActsBesideBus.refl (s : State) : ActsBesideBus s s := ⟨Changes.refl s, rfl, rfl, rfl⟩

theorem ActsBesideBus.of_bus (h : Changes s t) (hbus : t.bus = s.bus) : ActsBesideBus s t :=
  ⟨h, by rw [hbus], by rw [hbus], by rw [hbus]⟩

theorem ActsBesideBus.trans {u : State} (h : ActsBesideBus s t) (k : ActsBesideBus t u) : ActsBesideBus s u :=
  ⟨h.changes.trans k.changes, k.general.trans h.general, k.series.trans h.series, k.wire.trans h.wire⟩

theorem changes_serveRequest {act : List Byte → State → State × Reply} {args : List Byte}
    (hact : ActsBesideBus s (act args s).1) : Changes s (serveRequest act args s) := by
  unfold serveRequest
  split
  next htaken =>
    refine hact.changes.trans (Change.transmit (t := placeReply (act args s).2 (act args s).1) rfl ?_).changes
    refine transmitHolds_placeReply _ ?_
    rwa [requestTaken_congr hact.general hact.series hact.wire]
  next => exact changes_count .ignored s

theorem changes_serviceRow (code : Nat) {act : List Byte → State → State × Reply}
    (hact : ∀ args u, ActsBesideBus u (act args u).1) (rx : List Byte) (s : State) :
    Changes s (serviceRow code act rx s) :=
  changes_goodRow rx (fun f u _ => changes_serveRequest (hact (f.payload.drop 1) u)) s

theorem changes_readRow (code : Nat) {act : List Byte → State → State × Reply}
    (hact : ∀ args u, (act args u).1 = u) (rx : List Byte) (s : State) : Changes s (serviceRow code act rx s) :=
  changes_serviceRow code (fun args u => by rw [hact args u]; exact ActsBesideBus.refl u) rx s

theorem request_pulse_bus (c : CoilNo) (n : Nat) (o : Origin) (s : State) :
    (request c .pulse n o s).1.bus = s.bus := by
  rcases request_passes_or_counted s c .pulse n o with hpass | ⟨k, hk⟩
  · rw [request_of_passes s c .pulse n o hpass]
    exact (pulseRequest_framed c n o s).2 .bus (by simp)
  · rw [hk]
    rfl

theorem actsBesideBus_serveTestPulse (args : List Byte) (s : State) :
    ActsBesideBus s (serveTestPulse args s).1 := by
  unfold serveTestPulse
  split
  · exact .of_bus (changes_request _ _ _ _ s) (request_pulse_bus _ _ _ s)
  · exact ActsBesideBus.refl s

theorem actsBesideBus_serveSetLamp (args : List Byte) (s : State) : ActsBesideBus s (serveSetLamp args s).1 := by
  unfold serveSetLamp
  split
  · split
    · exact ActsBesideBus.refl s
    · split
      next hruns =>
        exact .of_bus (changes_commandLamps _ _ _ _ _ (not_unconfigured_of_lampsRun hruns))
          ((commandLamps_framed _ _ _ _ _ s).2 .bus (by simp))
      next => exact ActsBesideBus.refl s
  · exact ActsBesideBus.refl s

theorem actsBesideBus_clearChannel (c : CoilNo) (s : State) : ActsBesideBus s (clearChannel c s) := by
  unfold clearChannel
  split
  · have hbus : (moveRaw c { s.coils[c].stopped .idle with faultKind := none } s).bus = s.bus :=
      (moveRaw_framed c _ s).2 .bus (by simp)
    refine ⟨changes_moveChannel mayMove_cleared, ?_, ?_, ?_⟩ <;> rw [moveChannel, noteDraw_eq, markedIf, hbus]
  · exact ActsBesideBus.refl s

theorem actsBesideBus_clearFaults (cs : List CoilNo) (s : State) : ActsBesideBus s (clearFaults cs s) := by
  unfold clearFaults
  refine List.foldlRecOn (motive := fun u => ActsBesideBus s u) cs _ (ActsBesideBus.refl s) fun u hu c _ => ?_
  refine hu.trans ((actsBesideBus_clearChannel c u).trans ?_)
  exact .of_bus (changes_of_watched (t := State.onFaultLine _ _) rfl) rfl

theorem actsBesideBus_serveClearFault (args : List Byte) (s : State) :
    ActsBesideBus s (serveClearFault args s).1 := by
  unfold serveClearFault
  split
  · exact ActsBesideBus.refl s
  · split
    · exact ActsBesideBus.refl s
    · exact actsBesideBus_clearFaults _ s

theorem serveReadCounters_state (args : List Byte) (s : State) : (serveReadCounters args s).1 = s := by
  unfold serveReadCounters; split <;> rfl

theorem serveReadPeer_state (args : List Byte) (s : State) : (serveReadPeer args s).1 = s := by
  unfold serveReadPeer; split <;> rfl

theorem serveReadCoil_state (args : List Byte) (s : State) : (serveReadCoil args s).1 = s := by
  unfold serveReadCoil; split <;> rfl

theorem serveReadSwitch_state (args : List Byte) (s : State) : (serveReadSwitch args s).1 = s := by
  unfold serveReadSwitch; split <;> rfl

theorem changes_unknownRequest (rx : List Byte) (s : State) : Changes s (unknownRequest rx s) := by
  unfold unknownRequest
  split
  · exact Changes.refl s
  · exact (changes_readRow _ (fun _ _ => rfl) rx s).ite (Changes.refl s)

/-! ### Resets and the loader -/

theorem changes_resetPowerOn (s : State) : Changes s (resetPowerOn s) :=
  (Change.reset s (fun _ c => by simp [Retained.powerOn]) fun _ => Nat.zero_le _).changes

theorem changes_resetSupplyDip (s : State) : Changes s (resetSupplyDip s) :=
  Changes.ite (Change.reset s (r := s.retained.dipped) id fun _ => min_le_right ..).changes (changes_resetPowerOn s)

theorem changes_resetService (s : State) : Changes s (resetService s) :=
  Changes.ite (Change.reset s (r := { s.retained with cause := .serviceRestart }) id id).changes (changes_resetPowerOn s)

theorem changes_holdEnd (straps : BitVec 5) (s : State) : Changes s (holdEnd straps s) := by
  unfold holdEnd
  split
  next hreached =>
    have hruns : s.startUp.hold ≠ none := fun hnone => by simp [holdReached, hnone, timerReached] at hreached
    have hstarted := (Change.load (s := s) (fun _ =>
      { hold := none, strapNumber := straps.toNat, loader := .reading 1, outcome := none }) (.inl ⟨hruns, rfl⟩)).changes
    exact hstarted.trans (changes_of_watched (t := (State.onBus _ _).onFaultLine _) rfl)
  next => exact Changes.refl s

theorem changes_rejectImage (o : LoadOutcome) {n : Nat} (hreading : s.startUp.loader = .reading n) :
    Changes s (rejectImage o s) :=
  (((Change.reject hreading o).changes.trans (changes_endAllChannels _)).unwatched (watched_flushQueue _)).unwatched
    (watched_noteLink _)

/-- R138: by the mark that a duplicate has been seen. -/
theorem leaveOffline_eq (s : State) : leaveOffline s = if s.link.duplicateSeen
    then enterDuplicate (s.onLink fun l => { l with duplicateSeen := false })
    else enterListen (s.onLink fun l => { l with duplicateSeen := false }) := rfl

/-- R142: the link is in DUPLICATE, the event raised and the cause marked; the rest of the entry follows. -/
def duplicateReported (s : State) : State :=
  (raise .duplicate (s.onLink fun l => { l with
    state := .duplicate, listenWindow := none, announcedTimer := none, silence := none })).onFaultLine fun f =>
      { f with duplicate := f.duplicate || s.settings.causeMask.duplicate }

theorem enterDuplicate_eq (s : State) :
    enterDuplicate s = noteLink (cutTransmit (endQueuedChannels (flushQueue (duplicateReported s)))) := rfl

theorem onBus_framed (f : Bus → Bus) (s : State) : Framed [.bus] s (s.onBus f) :=
  ⟨rfl, fun b hb => by cases b <;> first | rfl | simp at hb⟩

theorem noteLink_framed (s : State) : Framed [.sched, .bus] s (noteLink s) :=
  ((markDraw_framed s).mono (by simp)).trans ((promptScan_framed _).mono (by simp))

theorem enterDuplicate_framed (s : State) :
    Framed [.sched, .coils, .bus] (duplicateReported s) (enterDuplicate s) := by
  rw [enterDuplicate_eq]
  refine Framed.trans ?_ ((noteLink_framed _).mono (by simp))
  refine Framed.trans ?_ ((onBus_framed _ _).mono (by simp))
  exact ((flushQueue_framed _).mono (by simp)).trans ((endQueuedChannels_framed _).mono (by simp))

theorem enterDuplicate_link (s : State) : (enterDuplicate s).link = { s.link with
    state := .duplicate, listenWindow := none, announcedTimer := none, silence := none } :=
  (enterDuplicate_framed s).2 .link (by simp)

theorem enterListen_link (s : State) : (enterListen s).link = { s.link with
    state := .listen, listenWindow := some (startTimer (cs (3 * s.settings.beat))) } :=
  markDraw_link _

theorem leaveOffline_configured (s : State) : ¬Unconfigured (leaveOffline s) := by
  rw [leaveOffline_eq, Unconfigured]
  split
  · rw [enterDuplicate_link]
    simp
  · rw [enterListen_link]
    simp

theorem changes_leaveOffline {u : State} (h : ∀ f : LinkUnit → LinkUnit, ¬Unconfigured (u.onLink f) →
    (∀ l, (f l).peers = l.peers) → Changes s (u.onLink f)) : Changes s (leaveOffline u) := by
  rw [leaveOffline_eq]
  split
  · refine Changes.trans ?_ (changes_duplicateEntered _)
    exact h (fun l => { l with state := .duplicate, listenWindow := none, announcedTimer := none, silence := none,
                               duplicateSeen := false }) (by simp [Unconfigured]) fun _ => rfl
  · refine Changes.unwatched ?_ (watched_noteLink _)
    exact h (fun l => { l with state := .listen, listenWindow := some (startTimer (cs (3 * u.settings.beat)))
                               duplicateSeen := false }) (by simp [Unconfigured]) fun _ => rfl

theorem changes_acceptImage (img : List Byte) {n : Nat} (hreading : s.startUp.loader = .reading n) :
    Changes s (acceptImage img s) := by
  have hlink : (startLamps (takeSettings img s)).link = (takeSettings img s).link :=
    (startLamps_framed (takeSettings img s)).2 .link (by simp)
  refine Changes.trans (changes_leaveOffline fun f hconf hpeers => ?_) (changes_judgeRail (leaveOffline_configured _))
  exact (Change.accept hreading img f hconf (by rw [hpeers, hlink]; rfl)).changes

theorem changes_readError (s : State) : Changes s (readError s) := by
  unfold readError
  split
  next n hreading =>
    refine Changes.ite (Change.load _ (.inr ⟨?_, ?_, rfl⟩)).changes (changes_rejectImage _ hreading)
    · rw [hreading]; simp
    · rw [hreading]; simp
  next => exact Changes.refl s

theorem changes_retryRead (s : State) : Changes s (retryRead s) := by
  unfold retryRead
  split
  next n w hwaiting =>
    refine Changes.ite (Change.load _ (.inr ⟨?_, ?_, rfl⟩)).changes (Changes.refl s)
    · rw [hwaiting]; simp
    · rw [hwaiting]; simp
  next => exact Changes.refl s

theorem changes_passEnd (img : List Byte) (s : State) : Changes s (passEnd img s) := by
  unfold passEnd
  split
  next n hreading =>
    refine Changes.ite ?_ (Changes.refl s)
    split
    · exact changes_acceptImage img hreading
    · exact changes_rejectImage _ hreading
  next => exact Changes.refl s

/-! ### Sending -/

theorem changes_startSeries (s : State) : Changes s (startSeries s) :=
  (changes_of_watched (s := s) (t := s.onBus _) rfl).ite (Changes.refl s)

theorem watched_sampled (d : ReplyData) (s : State) : watched (sampled d s) = watched s := by
  unfold sampled
  split
  · rfl
  · split <;> rfl
  · rfl

theorem changes_attemptDraw (s : State) : Changes s (attemptDraw s) :=
  (changes_retest s).unwatched rfl

theorem changes_beginSeriesAttempt (s : State) : Changes s (beginSeriesAttempt s) := by
  unfold beginSeriesAttempt
  split
  · split
    · exact changes_attemptDraw s
    · exact changes_of_watched (s := s) (t := beginAttempt _ s) rfl
    · exact changes_of_watched ((watched_sampled _ _).trans rfl)
    · exact Changes.refl s
  · exact Changes.refl s

theorem changes_linkDrawCompleted (s : State) : Changes s (linkDrawCompleted s) := by
  unfold linkDrawCompleted
  refine Changes.ite (changes_of_watched (s := s) (t := s.onLink _) rfl) ?_
  split
  next h => exact changes_enterAnnounced (by rw [Unconfigured, h.1]; simp)
  next => exact Changes.refl s

theorem changes_completeDraw (f : Frame) (s : State) : Changes s (completeDraw f s) :=
  ((changes_drawCompleted _ s).trans (changes_linkDrawCompleted _)).trans
    (changes_of_watched (t := startBeat _) rfl)

theorem changes_filterReplies (s : State) :
    Changes s (s.onBus fun b => { b with general := b.general.filter fun g => !isReply g }) :=
  changes_of_sublist (s := s) (t := s.onBus _) rfl List.filter_sublist

theorem changes_generalTail (s : State) : Changes s (s.onBus fun b => { b with general := b.general.tail }) :=
  changes_of_sublist (s := s) (t := s.onBus _) rfl (List.tail_sublist _)

theorem changes_replyCompleted (f : Frame) (r : Reply) (s : State) : Changes s (replyCompleted f r s) := by
  have hreported : Changes s (if r.data = .events then eventsReported (BitVec.ofNat 16 (pairAt f.payload 2)) s else s) :=
    (changes_of_watched (s := s) (t := eventsReported _ s) rfl).ite (Changes.refl s)
  unfold replyCompleted
  exact (hreported.trans (changes_resetService _)).ite hreported

theorem changes_completeReply (f : Frame) (s : State) : Changes s (completeReply f s) := by
  unfold completeReply
  dsimp only
  split
  · exact (changes_filterReplies s).trans (changes_replyCompleted _ _ _)
  · exact changes_filterReplies s

theorem changes_attemptSucceeds (s : State) : Changes s (attemptSucceeds s) := by
  unfold attemptSucceeds
  split
  · have hheard : Changes s (heard (endSeries s)) := changes_of_watched ((watched_heard _).trans rfl)
    dsimp only
    split
    · exact hheard.trans (changes_completeDraw _ _)
    · exact hheard.trans ((Changes.refl _).ite (changes_generalTail _))
    · exact hheard.trans (changes_completeReply _ _)
  · exact Changes.refl s

theorem changes_abandonDraw (s : State) : Changes s (abandonDraw s) := by
  have hwithdrawn : Changes s (withdraw (markDraw s)) :=
    changes_of_watched ((watched_withdraw _).trans (watched_markDraw s))
  unfold abandonDraw
  exact (hwithdrawn.trans (changes_of_watched (t := State.onLink _ _) rfl)).ite hwithdrawn

theorem changes_abandon (r : Series) (s : State) : Changes s (abandon r s) := by
  have hended : Changes s (raise .txAbandon (count .abandoned (endSeries s))) :=
    ((changes_of_watched (s := s) (t := endSeries s) rfl).trans (changes_count .abandoned _)).unwatched
      (watched_raise _ .txAbandon)
  unfold abandon
  dsimp only
  split
  · exact hended.trans (changes_abandonDraw _)
  · exact hended.trans (changes_generalTail _)
  · exact hended.trans (changes_filterReplies _)

theorem changes_attemptFails (s : State) : Changes s (attemptFails s) := by
  unfold attemptFails
  split
  · exact Changes.refl s
  next r _ =>
    refine Changes.ite (changes_of_watched (s := s) (t := endSeries s) rfl) (Changes.ite (changes_abandon r s) ?_)
    exact changes_of_watched (s := s) (t := (endSeries s).onBus _) rfl

theorem changes_beatExpired (s : State) : Changes s (beatExpired s) :=
  Changes.ite (changes_of_watched (s := s) (watched_markDraw (s.onBus _))) (Changes.refl s)

theorem changes_listenWindowEnds (s : State) : Changes s (listenWindowEnds s) :=
  Changes.ite (changes_of_watched (s := s) (watched_markDraw (s.onLink _))) (Changes.refl s)

/-! ### Every row of the table -/

theorem not_unconfigured_of_announced (h : announcedDue s = true) : ¬Unconfigured s := by
  have hstate : s.link.state = .announced := of_decide_eq_true (Bool.and_eq_true_iff.1 h).1
  simp [Unconfigured, hstate]

theorem not_unconfigured_of_linkLoss (h : linkLossDue s = true) : ¬Unconfigured s := by
  have hstate : s.link.state = .announced ∨ s.link.state = .armed := by
    simpa using (Bool.and_eq_true_iff.1 h).1
  rintro (hu | hu) <;> simp [hu] at hstate

theorem changes_guarded {due : Bool} (h : due = true → Changes s t) : Changes s (if due then t else s) := by
  split
  next hdue => exact h hdue
  next => exact Changes.refl s

/-- R152 to R154: a timer of the monitor, in a rail state other than DOWN. -/
theorem changes_railRow {due : Bool} {old new : RailState} (hstate : due = true → s.rail.state = old)
    (hold : old ≠ .down) (hnew : new ≠ .settling) : Changes s (if due then changeRail new s else s) :=
  changes_guarded fun hdue => changes_changeRail (fun h => absurd h hnew) fun h =>
    absurd ((hstate hdue).symm.trans h) hold

/-- Every command answers a next state, by a chain of primitive changes. -/
theorem exec_changes (i : Instr) (s : State) : Yields (exec i s) (Changes s) := by
  cases i
  case powerOn => exact ⟨_, rfl, changes_resetPowerOn s⟩
  case supplyDip => exact ⟨_, rfl, changes_resetSupplyDip s⟩
  case validityMarkLost => exact ⟨_, rfl, changes_of_watched (s := s) (t := s.onRetained _) rfl⟩
  case powerUpHoldEnd straps => exact ⟨_, rfl, changes_holdEnd straps s⟩
  case configReadError => exact ⟨_, rfl, changes_readError s⟩
  case configRetryWaitExpiry => exact ⟨_, rfl, changes_retryRead s⟩
  case configPassEnd img => exact ⟨_, rfl, changes_passEnd img s⟩
  case stationClockTick =>
    exact ⟨_, rfl, changes_guarded fun _ => changes_of_watched (s := s) (t := s.onSwitches _) rfl⟩
  case switchInputChange n high => exact ⟨_, rfl, changes_switchInput n high s⟩
  case switchAdoption n => exact ⟨_, rfl, changes_adopt n s⟩
  case switchEdge n => exact ⟨_, rfl, changes_guarded fun h => changes_takeEdge h⟩
  case scan => exact ⟨_, rfl, changes_scan s⟩
  case announceTimerExpiry => exact ⟨_, rfl, changes_announceExpired s⟩
  case waitLimitExpiry c => exact ⟨_, rfl, changes_waitExpired c s⟩
  case kickTimerExpiry c => exact ⟨_, rfl, changes_guarded fun h => changes_kickEnds (kickDue_iff.1 h).1⟩
  case holdLimitExpiry c => exact ⟨_, rfl, changes_guarded fun h => changes_holdEnds (holdDue_iff.1 h).1⟩
  case restTimerExpiry c => exact ⟨_, rfl, changes_guarded fun h => changes_restEnds (restDue_iff.1 h).1⟩
  case kickOpenCheck c =>
    exact ⟨_, rfl, changes_guarded fun h => changes_enterFault (configured_of_openCheckDue h) c .opened⟩
  case senseReadingChange c r => exact ⟨_, rfl, changes_senseChanges c r s⟩
  case offCurrentTimerExpiry c =>
    exact ⟨_, rfl, changes_guarded fun h =>
      changes_offCurrent (configured_of_senseJudged (Bool.and_eq_true_iff.1 h).2) c⟩
  case thermalIntervalExpiry => exact ⟨_, rfl, changes_thermalInterval s⟩
  case lampHalfExpiry n => exact ⟨_, rfl, changes_lampHalf n s⟩
  case lampPhaseExpiry => exact ⟨_, rfl, changes_lampPhase s⟩
  case warmUpExpiry n => exact ⟨_, rfl, changes_warmUp n s⟩
  case railReadingChange v => exact ⟨_, rfl, changes_railReading v.toNat s⟩
  case settleTimerExpiry =>
    exact ⟨_, rfl, changes_railRow (old := .settling) (fun h => of_decide_eq_true (Bool.and_eq_true_iff.1 h).1)
      (by decide) (by decide)⟩
  case sagQualifyExpiry =>
    exact ⟨_, rfl, changes_railRow (old := .up) (fun h => of_decide_eq_true (Bool.and_eq_true_iff.1 h).1)
      (by decide) (by decide)⟩
  case sagClearExpiry =>
    exact ⟨_, rfl, changes_railRow (old := .sag) (fun h => of_decide_eq_true (Bool.and_eq_true_iff.1 h).1)
      (by decide) (by decide)⟩
  case faultLineAsserted => exact ⟨_, rfl, changes_lineAsserted s⟩
  case faultLineReleased => exact ⟨_, rfl, changes_lineReleased s⟩
  case releaseSettleExpiry => exact ⟨_, rfl, changes_releaseSettled s⟩
  case badFrame rx => exact ⟨_, rfl, changes_badReception rx s⟩
  case fragment => exact ⟨_, rfl, changes_endFragment s⟩
  case filteredFrame rx => exact ⟨_, rfl, changes_goodRow rx (fun _ u _ => changes_count .ignored u) s⟩
  case ownNumberFrame rx => exact ⟨_, rfl, changes_goodRow rx (fun _ u _ => changes_takeOwnNumber u) s⟩
  case drawFrame rx => exact ⟨_, rfl, changes_goodRow rx (fun _ _ h => changes_takeDraw h) s⟩
  case switchFrame rx => exact ⟨_, rfl, changes_goodRow rx (fun f u _ => changes_takeSwitch f u) s⟩
  case fireFrame rx => exact ⟨_, rfl, changes_goodRow rx (fun f u _ => changes_takeFire f u) s⟩
  case lampFrame rx => exact ⟨_, rfl, changes_goodRow rx (fun f u _ => changes_takeLampFrame f.payload u) s⟩
  case status rx => exact ⟨_, rfl, changes_readRow 1 (fun _ _ => rfl) rx s⟩
  case readEvents rx => exact ⟨_, rfl, changes_readRow 2 (fun _ _ => rfl) rx s⟩
  case readCounters rx => exact ⟨_, rfl, changes_readRow 3 serveReadCounters_state rx s⟩
  case readPeer rx => exact ⟨_, rfl, changes_readRow 4 serveReadPeer_state rx s⟩
  case readCoil rx => exact ⟨_, rfl, changes_readRow 5 serveReadCoil_state rx s⟩
  case readSwitch rx => exact ⟨_, rfl, changes_readRow 6 serveReadSwitch_state rx s⟩
  case testPulse rx => exact ⟨_, rfl, changes_serviceRow 7 actsBesideBus_serveTestPulse rx s⟩
  case setLamp rx => exact ⟨_, rfl, changes_serviceRow 8 actsBesideBus_serveSetLamp rx s⟩
  case clearFault rx => exact ⟨_, rfl, changes_serviceRow 9 actsBesideBus_serveClearFault rx s⟩
  case restart rx => exact ⟨_, rfl, changes_readRow 10 (fun _ _ => rfl) rx s⟩
  case svcUnknownRequest rx => exact ⟨_, rfl, changes_unknownRequest rx s⟩
  case txSeriesStart => exact ⟨_, rfl, changes_startSeries s⟩
  case txWaitExpiry =>
    exact ⟨_, rfl, changes_guarded fun _ => (changes_endFragment s).trans (changes_beginSeriesAttempt _)⟩
  case txAttemptSuccess => exact ⟨_, rfl, changes_guarded fun _ => changes_attemptSucceeds s⟩
  case txAttemptFailure => exact ⟨_, rfl, changes_guarded fun _ => changes_attemptFails s⟩
  case txAbandon => exact ⟨_, rfl, changes_guarded fun _ => changes_attemptFails s⟩
  case beatTimerExpiry => exact ⟨_, rfl, changes_beatExpired s⟩
  case listenWindowExpiry => exact ⟨_, rfl, changes_listenWindowEnds s⟩
  case announcedTimerExpiry =>
    exact ⟨_, rfl, changes_guarded fun h => changes_enterArmed (not_unconfigured_of_announced h)⟩
  case linkLost => exact ⟨_, rfl, changes_guarded fun h => changes_loseLink (not_unconfigured_of_linkLoss h)⟩
  case peerStaleExpiry n => exact ⟨_, rfl, changes_makeStale n s⟩
  case peerRemovalExpiry n => exact ⟨_, rfl, changes_removePeer n s⟩
  case qualityWindowEnd => exact ⟨_, rfl, changes_guarded fun _ => changes_of_watched (watched_endWindow s)⟩
  case startBitOnLine => exact ⟨_, rfl, changes_startBit s⟩

end

end Sys2Proof.Machine
end

section
/-! What every step keeps: each invariant is kept by each primitive change, and so by every command and every quantum
(O7, O8, O9, O12 to O16); and every command completes (O2). -/

namespace Sys2Proof.Machine

/-! ### From the primitive changes to a step -/

/-- A state that holds what the invariants read, and nothing else. -/
def Watched.state (w : Watched) : State :=
  { State.reset with
    pending := w.pending
    pins := { Pins.initial with switchHigh := w.switchHigh }
    retained := { Retained.powerOn with heat := w.heat, dipCount := w.dipCount }
    startUp := w.startUp
    settings := w.settings
    link := { LinkUnit.reset with state := w.link, peers := w.peers }
    sched := { Scheduler.reset with committed := w.committed }
    coils := w.coils
    switches := { SwitchUnit.reset with records := w.records }
    lamps := { LampUnit.reset with lamps := w.lamps, queue := w.lampQueue }
    bus := { Bus.reset with general := w.general }
    rail := { RailMonitor.reset with state := w.rail }
    faultLine := { FaultLine.reset with drive := w.drive }
    service := { Service.reset with counters := w.counters } }

/-- `P` reads nothing but what is watched. -/
def ReadsWatched (P : State → Prop) : Prop := ∀ s, P (watched s).state ↔ P s

section
variable {P : State → Prop} {s t : State}

theorem ReadsWatched.of_eq (hP : ReadsWatched P) {w : Watched} (hw : watched t = w) (h : P w.state) : P t := by
  subst hw
  exact (hP t).1 h

theorem Changes.keep (hP : ∀ {s t}, P s → Change s t → P t) (hc : Changes s t) (h : P s) : P t := by
  induction hc with
  | refl => exact h
  | tail _ hlast ih => exact hP ih hlast

/-- What every primitive change keeps, every step keeps. -/
theorem kept_by_step (hP : ∀ {s t}, P s → Change s t → P t) (hpending : ∀ s q, P s → P (s.withPending q)) (h : P s)
    (hstep : step s = .next t) : P t := by
  rcases step_cases s with ⟨i, q, hi⟩ | helapse
  · obtain ⟨u, hu, hc⟩ := exec_changes i (s.withPending q)
    have hut : u = t := Host.Outcome.next.inj (hu.symm.trans (hi.symm.trans hstep))
    exact hut ▸ hc.keep hP (hpending s q h)
  · have het : Machine.elapse s = t := Host.Outcome.next.inj (helapse.symm.trans hstep)
    exact het ▸ hP h (Change.elapse s)

end

/-! ### What the larger primitive changes leave watched -/

theorem watched_moveRaw (c : CoilNo) (new : CoilChannel) (s : State) : watched (moveRaw c new s) = { watched s with
    coils := s.coils.set c { new with offTimer := offTimerAfter s.coils[c] new s.pins.sense[c] }
    committed := s.sched.committed + drawOf s.settings.coils[c] new - drawOf s.settings.coils[c] s.coils[c] } := by
  rw [← moveRaw_coils c new s, ← moveRaw_committed c new s]
  unfold moveRaw
  dsimp only
  split <;> rfl

theorem watched_onLink_onlyLamps {s t : State} (h : Framed [.lamps] s t) (f : LinkUnit → LinkUnit) :
    watched (t.onLink f) = { watched s with
      lamps := t.lamps.lamps, lampQueue := t.lamps.queue, link := (f t.link).state, peers := (f t.link).peers } := by
  have hw := watched_onlyLamps h
  calc watched (t.onLink f) = { watched t with link := (f t.link).state, peers := (f t.link).peers } := rfl
    _ = _ := by rw [hw]

/-- R167: acceptance but for the lamps and the link. -/
theorem watched_accept (img : List Byte) (s : State) (f : LinkUnit → LinkUnit) :
    watched ((startLamps (takeSettings img s)).onLink f) = { watched (takeSettings img s) with
      lamps := (startLamps (takeSettings img s)).lamps.lamps, lampQueue := (startLamps (takeSettings img s)).lamps.queue
      link := (f (startLamps (takeSettings img s)).link).state
      peers := (f (startLamps (takeSettings img s)).link).peers } :=
  watched_onLink_onlyLamps (startLamps_framed (takeSettings img s)) f

theorem getElem_set_coil (v : Vector CoilChannel 16) (c d : CoilNo) (ch : CoilChannel) :
    (v.set c ch)[d] = if d = c then ch else v[d] := by
  by_cases h : d = c
  · subst h
    simp
  · rw [if_neg h]
    exact Vector.getElem_set_ne c.isLt d.isLt fun hval => h (Fin.ext hval.symm)

/-! ### Every command completes -/

theorem Change.pending {s t : State} (h : Change s t) : t.pending = s.pending := by
  cases h
  case unwatched hw => exact congrArg Watched.pending hw
  case move c new hmove => exact (moveRaw_framed c new s).1
  case drivesEnd r d hrail hw hcoils hcommitted => exact congrArg Watched.pending hw
  case peers hw hkeep => exact congrArg Watched.pending hw
  case transmit hw hkeep => exact congrArg Watched.pending hw
  case switches hw hkeep => exact congrArg Watched.pending hw
  case lamps hw hkeep => exact congrArg Watched.pending hw
  case accept img f hreading hlink hpeers =>
    rw [State.onLink_pending, (startLamps_framed (takeSettings img s)).1]
    rfl
  all_goals rfl

/-- Settles O2: every command is a chain of primitive changes (`exec_changes`), and each leaves the queue alone. -/
theorem everyCommandCompletes : Obligations.EveryCommandCompletes := fun s i => by
  obtain ⟨t, ht, hc⟩ := exec_changes i s
  exact ⟨t, ht, hc.keep (P := fun u => u.pending = s.pending) (fun hu h => h.pending.trans hu) rfl⟩

/-! ### The loader -/

section
variable {s t : State}

/-- R138, R163, R164: what the loader is at, and that the link is OFFLINE meanwhile. -/
theorem LoadsOffline.change (h : LoadsOffline s) (hc : Change s t) : LoadsOffline t := by
  have hreads : ReadsWatched LoadsOffline := fun _ => Iff.rfl
  obtain ⟨hhold, hload⟩ := id h
  cases hc
  case unwatched hw => exact hreads.of_eq hw h
  case count | heat | record | rail | normal => exact h
  case move => exact hreads.of_eq (watched_moveRaw _ _ s) h
  case drivesEnd r d hrail hw hcoils hcommitted => exact hreads.of_eq hw h
  case link f hs ht hpeers => exact ⟨hhold, fun hne => absurd (.inl (hload hne)) hs⟩
  case peers hw hkeep => exact hreads.of_eq hw h
  case transmit hw hkeep => exact hreads.of_eq hw h
  case switches hw hkeep => exact hreads.of_eq hw h
  case lamps hw hkeep => exact hreads.of_eq hw h
  case load f hf =>
    rcases hf with ⟨hruns, hnone⟩ | ⟨hholding, hended, hsame⟩
    · exact ⟨fun hne => absurd hnone hne, fun _ => hload (by rw [hhold hruns]; simp)⟩
    · exact ⟨fun hne => absurd (hhold (by rwa [← hsame])) hholding, fun _ => hload hended⟩
  case reject n o hreading =>
    exact ⟨fun hne => absurd (hhold hne) (by rw [hreading]; simp), fun hne => absurd rfl hne⟩
  case accept n img f hreading hlink hpeers =>
    refine hreads.of_eq (watched_accept img s f) ⟨fun hne => ?_, fun hne => absurd rfl hne⟩
    exact absurd (hhold hne) (by rw [hreading]; simp)
  case reset => exact ⟨fun _ => rfl, fun _ => rfl⟩
  case elapse => exact loadsOffline_elapse h

/-- A pass is read only while the link is OFFLINE. -/
theorem LoadsOffline.offline (h : LoadsOffline s) {n : Nat} (hreading : s.startUp.loader = .reading n) :
    s.link.state = .offline := h.2 (by rw [hreading]; simp)

/-! ### Coil outputs -/

theorem running_externallyEnded (ch : CoilChannel) (sense : Sense) :
    running (externallyEnded ch sense).state = false := by
  unfold externallyEnded
  split
  · rfl
  next hon =>
    split
    · rfl
    next hrest => simp [running, hon, hrest]

theorem OutputsHeldOff.change (h : OutputsHeldOff s) (hc : Change s t) : OutputsHeldOff t := by
  have hreads : ReadsWatched OutputsHeldOff := fun _ => Iff.rfl
  obtain ⟨hoff, hdown, hload⟩ := id h
  have hload' := hload.change hc
  cases hc
  case unwatched hw => exact hreads.of_eq hw h
  case count | heat => exact h
  case move c new hmove =>
    refine hreads.of_eq (watched_moveRaw c new s) ⟨fun hheld d => ?_, hdown, hload⟩
    have hs : HeldOff s := hheld
    have hcoil := getElem_set_coil s.coils c d { new with offTimer := offTimerAfter s.coils[c] new s.pins.sense[c] }
    refine Eq.trans (congrArg (fun ch => running ch.state) hcoil) ?_
    split
    · refine Bool.eq_false_iff.2 fun hrun => ?_
      exact (hmove.held hrun).elim (fun hwas => absurd hwas (by rw [hoff hs c]; decide)) fun hnot => hnot hs
    · exact hoff hs d
  case record c new hstate hcoherent =>
    refine ⟨fun hheld d => ?_, hdown, hload⟩
    rw [State.onCoils_coils, getElem_set_coil]
    split
    next hd => rw [hstate]; exact hoff hheld c
    next => exact hoff hheld d
  case drivesEnd r d hrail hw hcoils hcommitted =>
    refine hreads.of_eq hw ⟨fun _ c => ?_, fun hu => ?_, hload⟩
    · obtain ⟨sense, hcoil⟩ := hcoils c
      exact Eq.trans (congrArg (fun ch => running ch.state) hcoil) (running_externallyEnded _ _)
    · rcases hrail with hsame | hnew
      · exact hsame.trans (hdown hu)
      · exact hnew
  case rail f hne hsettling hconf =>
    have hconf' : ¬Unconfigured s := fun hu => hconf (hdown hu) hu
    refine ⟨fun hheld => ?_, fun hu => absurd hu hconf', hload⟩
    rcases hheld with hsafe | hd | hset | hu
    · exact hoff (.inl hsafe)
    · exact absurd hd hne
    · exact hoff (.inr (.inl (hsettling hset)))
    · exact absurd hu hconf'
  case normal f hnormal =>
    refine ⟨fun hheld => ?_, hdown, hload⟩
    rcases hheld with hsafe | hrest
    · exact nomatch hnormal.symm.trans hsafe
    · exact hoff (.inr hrest)
  case link f hs ht hpeers =>
    refine ⟨fun hheld => ?_, fun hu => absurd hu ht, hload'⟩
    rcases hheld with hsafe | hd | hset | hu
    · exact hoff (.inl hsafe)
    · exact hoff (.inr (.inl hd))
    · exact hoff (.inr (.inr (.inl hset)))
    · exact absurd hu ht
  case peers hw hkeep => exact hreads.of_eq hw h
  case transmit hw hkeep => exact hreads.of_eq hw h
  case switches hw hkeep => exact hreads.of_eq hw h
  case lamps hw hkeep => exact hreads.of_eq hw h
  case load => exact ⟨hoff, hdown, hload'⟩
  case reject n o hreading =>
    have hu : Unconfigured s := .inl (hload.offline hreading)
    exact ⟨fun _ => hoff (.inr (.inr (.inr hu))), fun _ => hdown hu, hload'⟩
  case accept n img f hreading hlink hpeers =>
    have hu : Unconfigured s := .inl (hload.offline hreading)
    have hcoils : ∀ c : CoilNo, (takeSettings img s).coils[c].state = s.coils[c].state := fun c => by
      simp [takeSettings, coilsAtAcceptance]
    refine ⟨fun _ c => ?_, fun ht => absurd ht hlink, hload'⟩
    have hsame : (startLamps (takeSettings img s)).coils = (takeSettings img s).coils :=
      (startLamps_framed (takeSettings img s)).2 .coils (by simp)
    rw [State.onLink_coils, hsame, hcoils c]
    exact hoff (.inr (.inr (.inr hu))) c
  case reset =>
    refine ⟨fun _ c => ?_, fun _ => rfl, hload'⟩
    have hreset : (Vector.replicate 16 CoilChannel.reset)[c] = CoilChannel.reset := Vector.getElem_replicate _
    exact congrArg (fun ch => running ch.state) hreset
  case elapse => exact ⟨fun hheld c => by rw [elapse_coilState]; exact hoff hheld c, hdown, hload'⟩

theorem coilOutput_of_not_running {ch : CoilChannel} (h : running ch.state = false) : coilOutput ch = false := by
  unfold coilOutput
  split
  next hkick => simp [running, commandedOn, hkick] at h
  next hhold => simp [running, commandedOn, hhold] at h
  next => rfl

end

/-- Settles O7: every primitive change keeps the outputs held off. -/
theorem outputsStayHeldOff : Obligations.OutputsStayHeldOff := by
  intro s t h hstep
  have ht := kept_by_step OutputsHeldOff.change (fun _ _ h => h) h hstep
  exact ⟨ht, fun hheld c => coilOutput_of_not_running (ht.1 hheld c)⟩

/-! ### The channel records -/

section
variable {s t : State}

/-- R63: where the off-current timer of a channel runs, its output is off. -/
theorem commandedOn_of_offTimerAfter {old new : CoilChannel} {sense : Sense} (h : offTimerAfter old new sense ≠ none) :
    commandedOn new.state = false := by
  unfold offTimerAfter at h
  split at h
  · exact absurd rfl h
  next hon => simpa using hon

theorem coherent_moved {c : CoilNo} {new : CoilChannel} (hmove : MayMove c new s) (h : s.coils[c].Coherent) :
    CoilChannel.Coherent { new with offTimer := offTimerAfter s.coils[c] new s.pins.sense[c] } := by
  obtain ⟨hkind, hkick, hrest, hduty, hhold, -⟩ := h
  obtain ⟨hkind', hkick', hrest', hduty', hhold'⟩ := hmove.coherent ⟨hkind, hkick, hrest, hduty, hhold⟩
  exact ⟨hkind', hkick', hrest', hduty', hhold', commandedOn_of_offTimerAfter⟩

theorem externallyEnded_coherent {ch : CoilChannel} (sense : Sense) (h : ch.Coherent) :
    (externallyEnded ch sense).Coherent := by
  obtain ⟨hkind, -, -, -, -, hoff⟩ := id h
  have hnone (hne : ch.state ≠ .fault) : ch.faultKind = none := by_contra fun hk => hne (hkind.1 hk)
  unfold externallyEnded
  split
  next hon =>
    have hne : ch.state ≠ .fault := fun hf => by simp [commandedOn, hf] at hon
    simp [CoilChannel.Coherent, turnedOff, hnone hne, commandedOn]
  next =>
    split
    next hrest => simp [CoilChannel.Coherent, quiet, hnone (by rw [hrest]; decide), commandedOn]
    next => exact h

theorem externallyEnded_lockout {ch : CoilChannel} {sense : Sense}
    (h : (externallyEnded ch sense).state = .lockout) : ch.state = .lockout := by
  unfold externallyEnded at h
  split at h
  · exact nomatch h
  · split at h
    · exact nomatch h
    · exact h

theorem externallyEnded_idle {ch : CoilChannel} (sense : Sense) (h : ch.state = .idle) :
    (externallyEnded ch sense).state = .idle := by
  simp [externallyEnded, commandedOn, h]

theorem elapse_coherent {ch : CoilChannel} (sense : Sense) (h : ch.Coherent) : (ch.elapse sense).Coherent := by
  have htimer (w : Timer) : advanceTimer w ≠ none ↔ w ≠ none := by cases w <;> simp [advanceTimer]
  obtain ⟨hkind, hkick, hrest, hduty, hhold, hoff⟩ := h
  exact ⟨hkind, (htimer _).trans hkick, (htimer _).trans hrest, hduty, fun hne => hhold ((htimer _).1 hne),
    fun hne => hoff ((htimer _).1 hne)⟩

theorem coil_reset (c : CoilNo) : State.reset.coils[c] = CoilChannel.reset := Vector.getElem_replicate _

theorem accept_coils (img : List Byte) (s : State) (f : LinkUnit → LinkUnit) (c : CoilNo) :
    ((startLamps (takeSettings img s)).onLink f).coils[c] = { s.coils[c] with
      offTimer := if s.pins.sense[c] = .none then none else some (startTimer stuckTime) } := by
  have hsame : (startLamps (takeSettings img s)).coils = (takeSettings img s).coils :=
    (startLamps_framed (takeSettings img s)).2 .coils (by simp)
  rw [State.onLink_coils, hsame]
  exact Vector.getElem_ofFn _

theorem ChannelsCoherent.change (h : ChannelsCoherent s) (hc : Change s t) : ChannelsCoherent t := by
  have hreads : ReadsWatched ChannelsCoherent := fun _ => Iff.rfl
  obtain ⟨hcoh, hlock, hidle, hload⟩ := id h
  have hload' := hload.change hc
  cases hc
  case unwatched hw => exact hreads.of_eq hw h
  case count | heat => exact h
  case move c new hmove =>
    have hcoil := getElem_set_coil s.coils c (ch := { new with
      offTimer := offTimerAfter s.coils[c] new s.pins.sense[c] })
    refine hreads.of_eq (watched_moveRaw c new s) ⟨fun d => ?_, fun d hcls => ?_, fun hu d => ?_, hload⟩
    · refine (congrArg CoilChannel.Coherent (hcoil d)).mpr ?_
      split
      · exact coherent_moved hmove (hcoh c)
      · exact hcoh d
    · refine (congrArg (fun ch : CoilChannel => ch.state ≠ .lockout) (hcoil d)).mpr ?_
      split
      next hd =>
        subst hd
        exact fun hnew => hmove.lockout hnew hcls
      next => exact hlock d hcls
    · refine (congrArg (fun ch : CoilChannel => ch.state = .idle) (hcoil d)).mpr ?_
      split
      · exact hmove.configured.resolve_right (not_or.2 ⟨not_not_intro (hidle hu c), not_not_intro hu⟩)
      · exact hidle hu d
  case record c new hstate hcoherent =>
    have hcoil := getElem_set_coil s.coils c (ch := new)
    refine ⟨fun d => ?_, fun d hcls => ?_, fun hu d => ?_, hload⟩
    · rw [State.onCoils_coils, hcoil d]
      split
      · exact hcoherent (hcoh c)
      · exact hcoh d
    · rw [State.onCoils_coils, hcoil d]
      split
      next hd =>
        subst hd
        rw [hstate]
        exact hlock d hcls
      next => exact hlock d hcls
    · rw [State.onCoils_coils, hcoil d]
      split
      · rw [hstate]
        exact hidle hu c
      · exact hidle hu d
  case drivesEnd r e hrail hw hcoils hcommitted =>
    refine hreads.of_eq hw ⟨fun d => ?_, fun d hcls => ?_, fun hu d => ?_, hload⟩
    · obtain ⟨sense, hcoil⟩ := hcoils d
      exact (congrArg CoilChannel.Coherent hcoil).mpr (externallyEnded_coherent _ (hcoh d))
    · obtain ⟨sense, hcoil⟩ := hcoils d
      refine (congrArg (fun ch : CoilChannel => ch.state ≠ .lockout) hcoil).mpr fun hnew => ?_
      exact hlock d hcls (externallyEnded_lockout hnew)
    · obtain ⟨sense, hcoil⟩ := hcoils d
      exact (congrArg (fun ch : CoilChannel => ch.state = .idle) hcoil).mpr (externallyEnded_idle _ (hidle hu d))
  case rail | normal => exact h
  case link f hs ht hpeers => exact ⟨hcoh, hlock, fun hu => absurd hu ht, hload'⟩
  case peers hw hkeep => exact hreads.of_eq hw h
  case transmit hw hkeep => exact hreads.of_eq hw h
  case switches hw hkeep => exact hreads.of_eq hw h
  case lamps hw hkeep => exact hreads.of_eq hw h
  case load => exact ⟨hcoh, hlock, hidle, hload'⟩
  case reject n o hreading => exact ⟨hcoh, hlock, fun _ => hidle (.inl (hload.offline hreading)), hload'⟩
  case accept n img f hreading hlink hpeers =>
    have hstate : ∀ d : CoilNo, s.coils[d].state = .idle := hidle (.inl (hload.offline hreading))
    refine ⟨fun d => ?_, fun d _ => ?_, fun ht => absurd ht hlink, hload'⟩
    · rw [accept_coils]
      obtain ⟨hkind, hkick, hrest, hduty, hhold, -⟩ := hcoh d
      exact ⟨hkind, hkick, hrest, hduty, hhold, fun _ => congrArg commandedOn (hstate d)⟩
    · rw [accept_coils]
      exact fun hlock => nomatch (hstate d).symm.trans hlock
  case reset r hheat hdip =>
    have hcoils : (resetTo r s).coils = State.reset.coils := rfl
    refine ⟨fun d => ?_, fun d _ => ?_, fun _ d => ?_, hload'⟩
    · rw [hcoils, coil_reset]
      decide
    · rw [hcoils, coil_reset]
      decide
    · rw [hcoils, coil_reset]
      rfl
  case elapse =>
    refine ⟨fun d => ?_, fun d hcls => ?_, fun hu d => ?_, hload'⟩
    · rw [elapse_coils]
      exact elapse_coherent _ (hcoh d)
    · rw [elapse_coilState]
      exact hlock d hcls
    · rw [elapse_coilState]
      exact hidle hu d

end

/-- Settles O8: every primitive change keeps the channel records coherent. -/
theorem channelsStayCoherent : Obligations.ChannelsStayCoherent := fun _ _ h hstep =>
  kept_by_step ChannelsCoherent.change (fun _ _ h => h) h hstep

end Sys2Proof.Machine
end

section
/-! What every step keeps, continued: D_own, the switches, the lamps, the transmit queue, the peer table, the heat and
the counters (O9, O12 to O16). -/

namespace Sys2Proof.Machine

section
variable {s t : State}

/-! ### The blocks that the lamps' start leaves alone -/

theorem startLamps_sched (s : State) : (startLamps s).sched = s.sched := (startLamps_framed s).2 .sched (by simp)

theorem startLamps_switches (s : State) : (startLamps s).switches = s.switches :=
  (startLamps_framed s).2 .switches (by simp)

theorem startLamps_settings (s : State) : (startLamps s).settings = s.settings :=
  (startLamps_framed s).2 .settings (by simp)

theorem startLamps_pins (s : State) : (startLamps s).pins = s.pins := (startLamps_framed s).2 .pins (by simp)

theorem startLamps_bus (s : State) : (startLamps s).bus = s.bus := (startLamps_framed s).2 .bus (by simp)

theorem startLamps_retained (s : State) : (startLamps s).retained = s.retained :=
  (startLamps_framed s).2 .retained (by simp)

theorem startLamps_service (s : State) : (startLamps s).service = s.service :=
  (startLamps_framed s).2 .service (by simp)

/-! ### D_own -/

theorem drawSum_of_not_running (h : ∀ c : CoilNo, running s.coils[c].state = false) : drawSum s = 0 := by
  refine List.sum_eq_zero fun d hd => ?_
  obtain ⟨c, -, rfl⟩ := List.mem_map.1 hd
  exact drawOf_of_off (Bool.or_eq_false_iff.1 (h c)).1

theorem DrawMatches.change (h : DrawMatches s) (hc : Change s t) : DrawMatches t := by
  have hreads : ReadsWatched DrawMatches := fun _ => Iff.rfl
  obtain ⟨hsum, hidle, hload⟩ := id h
  have hload' := hload.change hc
  cases hc
  case unwatched hw => exact hreads.of_eq hw h
  case count | heat => exact h
  case move c new hmove =>
    have hframe := (moveRaw_framed c new s).2
    have hsettings : (moveRaw c new s).settings = s.settings := hframe .settings (by simp)
    have hlink : (moveRaw c new s).link = s.link := hframe .link (by simp)
    have hterm := drawSum_of_set (t := moveRaw c new s) (congrArg Settings.coils hsettings) (moveRaw_coils c new s)
    have hdraw : drawOf s.settings.coils[c] { new with offTimer := offTimerAfter s.coils[c] new s.pins.sense[c] } =
        drawOf s.settings.coils[c] new := drawOf_congr rfl
    refine ⟨?_, fun hu d => ?_, hload'⟩
    · rw [moveRaw_committed, hsum]
      omega
    · have hu' : Unconfigured s := by rwa [Unconfigured, hlink] at hu
      rw [moveRaw_coils, getElem_set_coil]
      split
      · exact hmove.configured.resolve_right (not_or.2 ⟨not_not_intro (hidle hu' c), not_not_intro hu'⟩)
      · exact hidle hu' d
  case record c new hstate hcoherent =>
    have hsame : ∀ d : CoilNo, (s.onCoils fun v => v.set c new).coils[d].state = s.coils[d].state := fun d => by
      rw [State.onCoils_coils, getElem_set_coil]
      split
      next hd => rw [hstate, hd]
      next => rfl
    have hdraw : drawSum (s.onCoils fun v => v.set c new) = drawSum s := drawSum_congr rfl hsame
    refine ⟨?_, fun hu d => ?_, hload⟩
    · rw [hdraw]
      exact hsum
    · rw [hsame]
      exact hidle hu d
  case drivesEnd r d hrail hw hcoils hcommitted =>
    have hlink : t.link.state = s.link.state := congrArg Watched.link hw
    have hoff : ∀ c : CoilNo, running t.coils[c].state = false := fun c => by
      obtain ⟨sense, hcoil⟩ := hcoils c
      rw [hcoil]
      exact running_externallyEnded _ _
    refine ⟨?_, fun hu c => ?_, hload'⟩
    · rw [hcommitted, drawSum_of_not_running hoff, committedEnded, hsum]
      exact Nat.sub_self _
    · obtain ⟨sense, hcoil⟩ := hcoils c
      rw [hcoil]
      exact externallyEnded_idle _ (hidle (by rwa [Unconfigured, hlink] at hu) c)
  case rail | normal => exact h
  case link f hs ht hpeers => exact ⟨hsum, fun hu => absurd hu ht, hload'⟩
  case peers hw hkeep => exact hreads.of_eq hw h
  case transmit hw hkeep => exact hreads.of_eq hw h
  case switches hw hkeep => exact hreads.of_eq hw h
  case lamps hw hkeep => exact hreads.of_eq hw h
  case load => exact ⟨hsum, hidle, hload'⟩
  case reject n o hreading => exact ⟨hsum, fun _ => hidle (.inl (hload.offline hreading)), hload'⟩
  case accept n img f hreading hlink hpeers =>
    have hstate := hidle (.inl (hload.offline hreading))
    have hcommitted : ((startLamps (takeSettings img s)).onLink f).sched = s.sched := by
      rw [State.onLink_sched, startLamps_sched]
      rfl
    refine ⟨?_, fun ht => absurd ht hlink, hload'⟩
    rw [hcommitted, hsum, drawSum_of_idle hstate, drawSum_of_idle fun c => by rw [accept_coils]; exact hstate c]
  case reset r hheat hdip =>
    have hcoils : ∀ c : CoilNo, (resetTo r s).coils[c].state = .idle := fun c => by
      have hreset : State.reset.coils[c] = CoilChannel.reset := coil_reset c
      have hsame : (resetTo r s).coils = State.reset.coils := rfl
      rw [hsame, hreset]
      rfl
    exact ⟨(drawSum_of_idle hcoils).symm, fun _ => hcoils, hload'⟩
  case elapse =>
    have hdraw : drawSum (elapse s) = drawSum s := drawSum_congr rfl (elapse_coilState s)
    refine ⟨?_, fun hu c => ?_, hload'⟩
    · rw [hdraw]
      exact hsum
    · rw [elapse_coilState]
      exact hidle hu c

/-! ### Switches -/

theorem takesEdges_of_configured {l : LinkState} (h : ¬(l = .offline ∨ l = .held)) : takesEdges l = true := by
  cases l
  case offline | held => simp at h
  all_goals rfl

theorem takesEdges_of_unconfigured {l : LinkState} (h : l = .offline ∨ l = .held) : takesEdges l = false := by
  rcases h with rfl | rfl <;> rfl

theorem switchFollows_elapse {cfg : SwitchSettings} {high runs : Bool} {r : SwitchRecord}
    (h : SwitchFollows cfg high runs r) : SwitchFollows cfg high runs r.elapse := by
  have hclosed : r.elapse.qualify.map Qualify.closed = r.qualify.map Qualify.closed := by
    cases hq : r.qualify <;> simp [SwitchRecord.elapse, hq]
  have hstopped : r.qualify = none → r.elapse.qualify = none := fun hnone => by simp [SwitchRecord.elapse, hnone]
  have hlevel : r.elapse.level = r.level := rfl
  unfold SwitchFollows at h ⊢
  rw [hlevel, hclosed]
  split
  next hruns =>
    rw [if_pos hruns] at h
    split
    next hsame => exact hstopped (by rwa [if_pos hsame] at h)
    next hdiffers => rwa [if_neg hdiffers] at h
  next hstill =>
    rw [if_neg hstill] at h
    exact ⟨h.1, hstopped h.2⟩

/-- R85: at acceptance every switch, UNSETTLED until then, starts to time the level it has. -/
theorem switchFollows_accepted (cfg : SwitchSettings) (high : Bool) {r : SwitchRecord} (h : r.level = .unsettled) :
    SwitchFollows cfg high true { r with qualify := some (newQualify cfg (judgedClosed cfg high)) } := by
  unfold SwitchFollows
  rw [if_pos rfl, if_neg]
  · rfl
  · rw [h]
    cases judgedClosed cfg high <;> decide

theorem accept_records (img : List Byte) (s : State) (f : LinkUnit → LinkUnit) (n : SwitchNo) :
    ((startLamps (takeSettings img s)).onLink f).switches.records[n] = { s.switches.records[n] with
      qualify := some (newQualify (settingsOf img).switches[n]
        (judgedClosed (settingsOf img).switches[n] s.pins.switchHigh[n])) } := by
  rw [State.onLink_switches, startLamps_switches]
  exact Vector.getElem_ofFn _

theorem SwitchesFollow.change (h : SwitchesFollow s) (hc : Change s t) : SwitchesFollow t := by
  have hreads : ReadsWatched SwitchesFollow := fun _ => Iff.rfl
  obtain ⟨hall, hload⟩ := id h
  have hload' := hload.change hc
  cases hc
  case unwatched hw => exact hreads.of_eq hw h
  case count | heat | record | rail | normal => exact h
  case move => exact hreads.of_eq (watched_moveRaw _ _ s) h
  case drivesEnd r d hrail hw hcoils hcommitted => exact hreads.of_eq hw h
  case link f hs ht hpeers =>
    refine ⟨fun n => ?_, hload'⟩
    have hn := hall n
    rw [takesEdges_of_configured hs] at hn
    rw [takesEdges_of_configured ht]
    exact hn
  case peers hw hkeep => exact hreads.of_eq hw h
  case transmit hw hkeep => exact hreads.of_eq hw h
  case switches hw hkeep => exact hkeep h
  case lamps hw hkeep => exact hreads.of_eq hw h
  case load => exact ⟨hall, hload'⟩
  case reject n o hreading =>
    refine ⟨fun k => ?_, hload'⟩
    have hk := hall k
    rw [takesEdges_of_unconfigured (.inl (hload.offline hreading))] at hk
    exact hk
  case accept n img f hreading hlink hpeers =>
    refine ⟨fun k => ?_, hload'⟩
    have hk := hall k
    rw [takesEdges_of_unconfigured (.inl (hload.offline hreading))] at hk
    rw [takesEdges_of_configured hlink, accept_records, State.onLink_settings, startLamps_settings,
      State.onLink_pins, startLamps_pins]
    exact switchFollows_accepted _ _ hk.1
  case reset r hheat hdip =>
    refine ⟨fun k => ?_, hload'⟩
    have hreset : (resetTo r s).switches.records[k] = SwitchRecord.reset := Vector.getElem_replicate _
    rw [hreset]
    exact ⟨rfl, rfl⟩
  case elapse =>
    refine ⟨fun k => ?_, hload'⟩
    rw [elapse_records]
    exact switchFollows_elapse (hall k)

/-! ### Lamps -/

/-- R116: with a configuration just taken, the lamps take their initial states one after another. -/
theorem lampsSound_startLamps (h : LampsSound s.settings.lamps s.lamps) :
    LampsSound (startLamps s).settings.lamps (startLamps s).lamps := by
  have hcommand : ∀ (u : State) (n : LampNo) (cmd : ModeCommand), LampsSound u.settings.lamps u.lamps →
      LampsSound (lampCommand n cmd u).settings.lamps (lampCommand n cmd u).lamps := fun u n cmd hu =>
    lampsSound_setLampChannel (applyMode_modeOnly cmd) n hu
  have hphase : LampsSound s.settings.lamps { s.lamps with phase := some (startTimer lampPhasePeriod) } :=
    ⟨h.nodup, h.waiting, h.incandescent⟩
  unfold startLamps
  refine List.foldlRecOn (motive := fun u : State => LampsSound u.settings.lamps u.lamps) allLamps _ hphase
    fun u hu n _ => ?_
  unfold initialLamp
  split <;> exact hcommand u n _ hu

theorem LampsHold.change (h : LampsHold s) (hc : Change s t) : LampsHold t := by
  have hreads : ReadsWatched LampsHold := fun _ => Iff.rfl
  obtain ⟨hsound, hdark, hload⟩ := lampsHold_iff.1 h
  have hload' := hload.change hc
  cases hc
  case unwatched hw => exact hreads.of_eq hw h
  case count | heat | record | rail | normal => exact h
  case move => exact hreads.of_eq (watched_moveRaw _ _ s) h
  case drivesEnd r d hrail hw hcoils hcommitted => exact hreads.of_eq hw h
  case link f hs ht hpeers => exact lampsHold_of_configured ht hload' hsound
  case peers hw hkeep => exact hreads.of_eq hw h
  case transmit hw hkeep => exact hreads.of_eq hw h
  case switches hw hkeep => exact hreads.of_eq hw h
  case lamps hw hkeep => exact hkeep h
  case load => exact lampsHold_iff.2 ⟨hsound, hdark, hload'⟩
  case reject n o hreading =>
    exact lampsHold_iff.2 ⟨hsound, fun _ => hdark (.inl (hload.offline hreading)), hload'⟩
  case accept n img f hreading hlink hpeers =>
    obtain ⟨hempty, hall⟩ := hdark (.inl (hload.offline hreading))
    have htaken : LampsSound (takeSettings img s).settings.lamps (takeSettings img s).lamps :=
      ⟨hsound.nodup, hsound.waiting, fun n hn => by
        have hn' : n ∈ s.lamps.queue := hn
        rw [hempty] at hn'
        exact nomatch hn'⟩
    refine lampsHold_of_configured hlink hload' ?_
    rw [State.onLink_settings, State.onLink_lamps]
    exact lampsSound_startLamps htaken
  case reset r hheat hdip =>
    have hreset : ∀ n : LampNo, (resetTo r s).lamps.lamps[n] = LampChannel.reset := fun n =>
      Vector.getElem_replicate _
    refine lampsHold_iff.2 ⟨⟨List.nodup_nil, fun n => ?_, fun n hn => nomatch hn⟩, fun _ => ⟨rfl, fun n => ?_⟩, hload'⟩
    · rw [hreset n]
      exact iff_of_false (by decide) List.not_mem_nil
    · rw [hreset n]
      exact ⟨rfl, rfl, rfl⟩
  case elapse =>
    have hqueue : (elapse s).lamps.queue = s.lamps.queue := by simp only [elapse, elapseLamps]
    have hstage : ∀ n : LampNo, (elapse s).lamps.lamps[n].stage = s.lamps.lamps[n].stage := fun n => by
      rw [elapse_lamps]
      rfl
    have hsound' : LampsSound s.settings.lamps (elapse s).lamps := by
      constructor
      · rw [hqueue]
        exact hsound.nodup
      · intro n
        rw [hqueue, hstage]
        exact hsound.waiting n
      · rw [hqueue]
        exact hsound.incandescent
    refine lampsHold_iff.2 ⟨hsound', fun hu => ?_, hload'⟩
    obtain ⟨hempty, hall⟩ := hdark hu
    refine ⟨by rw [hqueue, hempty], fun n => ?_⟩
    obtain ⟨hmode, hflash, hdim⟩ := hall n
    rw [hstage, elapse_lamps]
    exact ⟨hmode, congrArg (Option.map _) hflash, hdim⟩

/-! ### The transmit queue -/

theorem accept_bus (img : List Byte) (s : State) (f : LinkUnit → LinkUnit) :
    ((startLamps (takeSettings img s)).onLink f).bus = s.bus := by
  rw [State.onLink_bus, startLamps_bus]
  rfl

theorem TransmitHolds.change (h : TransmitHolds s) (hc : Change s t) : TransmitHolds t := by
  have hreads : ReadsWatched TransmitHolds := fun _ => Iff.rfl
  cases hc
  case unwatched hw => exact hreads.of_eq hw h
  case count | heat | record | rail | normal | link | load | reject => exact h
  case move => exact hreads.of_eq (watched_moveRaw _ _ s) h
  case drivesEnd r d hrail hw hcoils hcommitted => exact hreads.of_eq hw h
  case peers hw hkeep => exact hreads.of_eq hw h
  case transmit hw hkeep => exact hkeep h
  case switches hw hkeep => exact hreads.of_eq hw h
  case lamps hw hkeep => exact hreads.of_eq hw h
  case accept n img f hreading hlink hpeers =>
    rw [TransmitHolds, accept_bus]
    exact h
  case reset => exact ⟨Nat.zero_le _, Nat.zero_le _⟩
  case elapse => exact h

/-! ### The peer draw table -/

theorem PeersHold.change (h : PeersHold s) (hc : Change s t) : PeersHold t := by
  have hreads : ReadsWatched PeersHold := fun _ => Iff.rfl
  obtain ⟨hsorted, hrange, hempty, hload⟩ := id h
  have hload' := hload.change hc
  have hnone : t.link.peers = [] → PeersHold t := fun hpeers =>
    ⟨hpeers ▸ List.Pairwise.nil, fun p hp => (by rw [hpeers] at hp; exact nomatch hp), fun _ => hpeers, hload'⟩
  cases hc
  case unwatched hw => exact hreads.of_eq hw h
  case count | heat | record | rail | normal => exact h
  case move => exact hreads.of_eq (watched_moveRaw _ _ s) h
  case drivesEnd r d hrail hw hcoils hcommitted => exact hreads.of_eq hw h
  case link f hs ht hpeers =>
    refine ⟨?_, fun p hp => ?_, fun hu => absurd hu ht, hload'⟩
    · rw [State.onLink_link, hpeers]
      exact hsorted
    · rw [State.onLink_link, hpeers] at hp
      exact hrange p hp
  case peers hw hkeep => exact hkeep h
  case transmit hw hkeep => exact hreads.of_eq hw h
  case switches hw hkeep => exact hreads.of_eq hw h
  case lamps hw hkeep => exact hreads.of_eq hw h
  case load f hf =>
    refine hnone (hempty (.inl ?_))
    obtain ⟨hhold, hoff⟩ := hload
    rcases hf with ⟨hruns, -⟩ | ⟨-, hended, -⟩
    · exact hoff (by rw [hhold hruns]; simp)
    · exact hoff hended
  case reject n o hreading => exact hnone (hempty (.inl (hload.offline hreading)))
  case accept n img f hreading hlink hpeers =>
    exact hnone (hpeers.trans (hempty (.inl (hload.offline hreading))))
  case reset => exact hnone rfl
  case elapse =>
    have hstations : (elapse s).link.peers.map Peer.station = s.link.peers.map Peer.station := by
      simp [elapse, LinkUnit.elapse, Function.comp_def]
    refine ⟨List.pairwise_map.1 ?_, fun p hp => ?_, fun hu => ?_, hload'⟩
    · rw [hstations]
      exact List.pairwise_map.2 hsorted
    · obtain ⟨q, hq, rfl⟩ := List.mem_map.1 hp
      exact hrange q hq
    · exact congrArg (List.map _) (hempty hu)

/-! ### Accumulators and counters -/

/-- R68, R171: both ranges together. -/
abbrev InRange (s : State) : Prop := HeatInRange s ∧ CountersInRange s

theorem byteAt_lt (l : List Byte) (n : Nat) : byteAt l n < 256 := BitVec.isLt _

theorem trip_le (img : List Byte) (c : CoilNo) : (settingsOf img).coils[c].trip ≤ 65535 := by
  have hcoil : (settingsOf img).coils[c] = coilRecord img c.val := Vector.getElem_ofFn _
  have hhigh := byteAt_lt img (16 + 12 * c.val + 10)
  have hlow := byteAt_lt img (16 + 12 * c.val + 10 + 1)
  rw [hcoil]
  refine max_le (by decide) ?_
  rw [pairAt]
  omega

theorem accept_heat (img : List Byte) (s : State) (f : LinkUnit → LinkUnit) :
    ((startLamps (takeSettings img s)).onLink f).retained =
      { s.retained with heat := heatAtAcceptance (settingsOf img) s.retained, leftOffline := true } := by
  rw [State.onLink_retained, startLamps_retained]
  rfl

theorem heatAtAcceptance_le (img : List Byte) (h : HeatInRange s) (c : CoilNo) :
    (heatAtAcceptance (settingsOf img) s.retained)[c] ≤ 65535 := by
  unfold heatAtAcceptance
  split
  · have hlevel : (Vector.ofFn fun c => releaseLevel (settingsOf img).coils[c].trip)[c] =
        releaseLevel (settingsOf img).coils[c].trip := Vector.getElem_ofFn _
    rw [hlevel]
    exact (Nat.div_le_self _ _).trans (trip_le img c)
  · exact h c

theorem InRange.change (h : InRange s) (hc : Change s t) : InRange t := by
  have hreads : ReadsWatched InRange := fun _ => Iff.rfl
  obtain ⟨hheat, hcounters, hdips⟩ := id h
  cases hc
  case unwatched hw => exact hreads.of_eq hw h
  case count k =>
    refine ⟨hheat, fun i => ?_, hdips⟩
    have hset : (s.service.counters.set k.index (satInc s.service.counters[k.index]))[i] ≤ 65535 := by
      rw [Fin.getElem_fin, Vector.getElem_set]
      split
      · exact min_le_right ..
      · exact hcounters i
    exact hset
  case heat c n hn =>
    refine ⟨fun d => ?_, hcounters, hdips⟩
    have hset : (s.retained.heat.set c n)[d] ≤ 65535 := by
      rw [Fin.getElem_fin, Vector.getElem_set]
      split
      · exact hn
      · exact hheat d
    exact hset
  case move => exact hreads.of_eq (watched_moveRaw _ _ s) h
  case drivesEnd r d hrail hw hcoils hcommitted => exact hreads.of_eq hw h
  case record | rail | normal | link | load | reject | elapse => exact h
  case peers hw hkeep => exact hreads.of_eq hw h
  case transmit hw hkeep => exact hreads.of_eq hw h
  case switches hw hkeep => exact hreads.of_eq hw h
  case lamps hw hkeep => exact hreads.of_eq hw h
  case accept n img f hreading hlink hpeers =>
    rw [InRange, HeatInRange, CountersInRange, accept_heat, State.onLink_service, startLamps_service]
    exact ⟨heatAtAcceptance_le img hheat, hcounters, hdips⟩
  case reset r hheat' hdip =>
    have hzero : ∀ i : Fin 15, (resetTo r s).service.counters[i] = 0 := fun i => Vector.getElem_replicate _
    exact ⟨hheat' hheat, fun i => (hzero i).trans_le (Nat.zero_le _), hdip hdips⟩

end

/-- Settles O9: every primitive change keeps D_own equal to the sum of the draws. -/
theorem committedDrawStaysExact : Obligations.CommittedDrawStaysExact := fun _ _ h hstep =>
  kept_by_step DrawMatches.change (fun _ _ h => h) h hstep

/-- Settles O12: every primitive change keeps each qualify timer with its input. -/
theorem qualifyTimersFollowInputs : Obligations.QualifyTimersFollowInputs := fun _ _ h hstep =>
  kept_by_step SwitchesFollow.change (fun _ _ h => h) h hstep

/-- Settles O13: every primitive change keeps the lamp start queue. -/
theorem lampQueueStaysSound : Obligations.LampQueueStaysSound := fun _ _ h hstep =>
  kept_by_step LampsHold.change (fun _ _ h => h) h hstep

/-- Settles O14: every primitive change keeps the transmit queue within its bounds. -/
theorem transmitQueueStaysBounded : Obligations.TransmitQueueStaysBounded := fun _ _ h hstep =>
  kept_by_step TransmitHolds.change (fun _ _ h => h) h hstep

/-- Settles O15: every primitive change keeps the peer table in order. -/
theorem peerTableStaysSound : Obligations.PeerTableStaysSound := fun _ _ h hstep =>
  kept_by_step PeersHold.change (fun _ _ h => h) h hstep

/-- Settles O16: every primitive change keeps the accumulators and the counters in range. -/
theorem heatAndCountersStayInRange : Obligations.HeatAndCountersStayInRange := fun _ _ h hstep =>
  kept_by_step InRange.change (fun _ _ h => h) h hstep

end Sys2Proof.Machine
end

section
/-! The queue of commands and the reset state (O1, O3, O5, O6), the resets, the power-up hold and the loader (O19 to
O21), the switch inputs (O26), and the timers of the bus, the link and the peers (O55, O59, O60). -/

namespace Sys2Proof.Machine

/-! ### The queue of commands -/

/-- Settles O1: it is `step` where a command waits. -/
theorem stepRunsFrontCommand : Obligations.StepRunsFrontCommand := fun _ _ _ => rfl

theorem step_of_idle {s : State} (h : s.pending = []) : step s = idleStep s := by simp only [step, h]

/-- Settles O3, by whether an own event has fallen due. -/
theorem emptyQueueLetsTimePass : Obligations.EmptyQueueLetsTimePass := by
  intro s hidle
  rw [step_of_idle hidle]
  refine ⟨fun i hi => ⟨List.find?_some (p := fun i => isDue i s) hi, by simp only [idleStep, hi]⟩, fun hnone => ⟨?_, ?_⟩⟩
  · exact fun i hi => Bool.eq_false_iff.2 (List.find?_eq_none.1 hnone i hi)
  · simp only [idleStep, hnone]

/-! ### The state after reset -/

/-- Settles O5: the state after reset is a literal. -/
theorem resetState : Obligations.ResetState := by
  unfold Obligations.ResetState
  decide

theorem loadsOffline_reset : LoadsOffline State.reset := ⟨fun _ => rfl, fun _ => rfl⟩

theorem not_running_reset (c : CoilNo) : running State.reset.coils[c].state = false := by
  rw [coil_reset]
  rfl

theorem idle_reset (c : CoilNo) : State.reset.coils[c].state = .idle := by
  rw [coil_reset]
  rfl

theorem drawMatches_reset : DrawMatches State.reset :=
  ⟨(drawSum_of_idle idle_reset).symm, fun _ => idle_reset, loadsOffline_reset⟩

/-- Settles O6, invariant by invariant. -/
theorem invariantsHoldAtReset : Obligations.InvariantsHoldAtReset := by
  refine ⟨⟨fun _ => not_running_reset, fun _ => rfl, loadsOffline_reset⟩,
    ⟨fun c => ?_, fun c _ => ?_, fun _ => idle_reset, loadsOffline_reset⟩, drawMatches_reset,
    ⟨drawMatches_reset, (fun _ ha => nomatch ha), fun c => ?_, by decide, by decide⟩,
    queueHolds_resetTo Retained.powerOn State.reset, ⟨fun n => ?_, loadsOffline_reset⟩,
    ⟨List.nodup_nil, fun n => ?_, (fun _ hn => nomatch hn), fun _ => ⟨rfl, fun n => ?_⟩, loadsOffline_reset⟩,
    by decide, ⟨List.Pairwise.nil, (fun _ hp => nomatch hp), fun _ => rfl, loadsOffline_reset⟩, by decide, by decide⟩
  · rw [coil_reset]
    decide
  · rw [idle_reset]
    decide
  · have hcoil : State.reset.settings.coils[c] = CoilSettings.unset := Vector.getElem_replicate _
    rw [hcoil]
    decide
  · have hrecord : State.reset.switches.records[n] = SwitchRecord.reset := Vector.getElem_replicate _
    rw [hrecord]
    exact ⟨rfl, rfl⟩
  · have hlamp : State.reset.lamps.lamps[n] = LampChannel.reset := Vector.getElem_replicate _
    rw [hlamp]
    exact iff_of_false (by decide) List.not_mem_nil
  · have hlamp : State.reset.lamps.lamps[n] = LampChannel.reset := Vector.getElem_replicate _
    rw [hlamp]
    exact ⟨rfl, rfl, rfl⟩

/-! ### Resets, the power-up hold and the loader -/

section
variable {s t : State} {P : State → Prop}

/-- A row that does nothing unless its event is due. -/
theorem yields_of_due {i : Instr} {due : Bool} (hrow : exec i s = .next (if due then t else s)) (hdue : due = true)
    (h : P t) : Yields (exec i s) P := ⟨t, by rw [hrow, if_pos hdue], h⟩

theorem yields_of_eq {i : Instr} {u : State} (hrow : exec i s = .next u) (hu : u = t) (h : P t) :
    Yields (exec i s) P := ⟨u, hrow, hu ▸ h⟩

theorem resetFrom_resetTo (r : Retained) (s : State) : ResetFrom s (resetTo r s) := rfl

theorem resetSupplyDip_of_valid (h : s.retained.valid = true) : resetSupplyDip s = resetTo s.retained.dipped s :=
  if_pos h

theorem resetSupplyDip_of_lost (h : s.retained.valid = false) : resetSupplyDip s = resetPowerOn s :=
  if_neg (ne_true_of_eq_false h)

end

/-- Settles O19, reset by reset. -/
theorem resetKinds : Obligations.ResetKinds := fun s =>
  ⟨⟨resetPowerOn s, rfl, resetFrom_resetTo _ s, rfl⟩,
    fun h => yields_of_eq (u := resetSupplyDip s) rfl (resetSupplyDip_of_valid h) ⟨resetFrom_resetTo _ s, rfl⟩,
    fun h => yields_of_eq (u := resetSupplyDip s) rfl (resetSupplyDip_of_lost h) rfl,
    ⟨_, rfl, rfl, onRetained_framed _ s⟩⟩

theorem onStartUp_framed (f : StartUp → StartUp) (s : State) : Framed [.startUp] s (s.onStartUp f) :=
  ⟨rfl, fun b hb => by cases b <;> first | rfl | simp at hb⟩

/-- Settles O20. -/
theorem powerUpHoldEnds : Obligations.PowerUpHoldEnds := fun s straps hreached =>
  yields_of_due rfl hreached ⟨rfl, rfl, rfl, ((onStartUp_framed _ s).mono (by simp)).trans
    (((onBus_framed _ _).mono (by simp)).trans ((onFaultLine_framed _ _).mono (by simp)))⟩

theorem readError_of_retry {s : State} {n : Nat} (hreading : s.startUp.loader = .reading n) (hn : n < 3) :
    readError s = s.onStartUp fun u => { u with loader := .waiting n (startTimer retryWait) } := by
  simp only [readError, hreading, if_pos hn]

theorem retryRead_of_reached {s : State} {n : Nat} {w : Countup} (hwaiting : s.startUp.loader = .waiting n w)
    (hreached : w.limit ≤ w.elapsed) : retryRead s = s.onStartUp fun u => { u with loader := .reading (n + 1) } := by
  simp only [retryRead, hwaiting, Countup.reached, decide_eq_true hreached, if_true]

/-- Settles O21. -/
theorem loaderRetries : Obligations.LoaderRetries := fun s _ _ =>
  ⟨fun hreading hn => yields_of_eq (u := readError s) rfl (readError_of_retry hreading hn) ⟨rfl, onStartUp_framed _ s⟩,
    fun hwaiting hreached => yields_of_eq (u := retryRead s) rfl (retryRead_of_reached hwaiting hreached)
      ⟨rfl, onStartUp_framed _ s⟩⟩

/-! ### Switch inputs -/

theorem onSwitches_framed (f : SwitchUnit → SwitchUnit) (s : State) : Framed [.switches] s (s.onSwitches f) :=
  ⟨rfl, fun b hb => by cases b <;> first | rfl | simp at hb⟩

section
variable {s : State} {n : SwitchNo} {q : Qualify}

theorem qualifyReached_of {r : SwitchRecord} (hq : r.qualify = some q) (hreached : q.timer.limit ≤ q.timer.elapsed) :
    qualifyReached r = true := by
  simp only [qualifyReached, hq]
  exact decide_eq_true hreached

theorem adoptionDue_of (htakes : takesEdges s.link.state = true) (hlevel : s.switches.records[n].level = .unsettled)
    (hq : s.switches.records[n].qualify = some q) (hreached : q.timer.limit ≤ q.timer.elapsed) :
    adoptionDue n s = true := by
  rw [adoptionDue, htakes, hlevel, qualifyReached_of hq hreached]
  rfl

theorem adopted_of {r : SwitchRecord} (hq : r.qualify = some q) :
    r.adopted = { r with level := if q.closed then .closed else .opened, qualify := none } := by
  simp only [SwitchRecord.adopted, qualifyClosed, hq, levelOf]

/-- R81, R83, R85: a level that changes reaches the record of a switch that takes edges. -/
theorem switchInput_of_changed {high : Bool} (h : s.pins.switchHigh[n] ≠ high) : switchInput n high s =
    if takesEdges s.link.state then
      (s.onPins fun p => { p with switchHigh := p.switchHigh.set n high }).onSwitches fun u =>
        u.withRecord n (u.records[n].inputChanged s.settings.switches[n] (judgedClosed s.settings.switches[n] high))
    else s.onPins fun p => { p with switchHigh := p.switchHigh.set n high } := if_neg h

end

/-- Settles O26: the tick, the adoption and the change of an input, row by row. -/
theorem switchInputsTimed : Obligations.SwitchInputsTimed := by
  intro s n q high
  refine ⟨fun hreached => ?_, fun htakes hlevel hq hreached => ?_, fun hchanged => ?_⟩
  · exact yields_of_due (due := clockDue s) rfl (decide_eq_true hreached) ⟨rfl, onSwitches_framed _ s⟩
  · refine yields_of_due (due := adoptionDue n s) rfl (adoptionDue_of htakes hlevel hq hreached)
      ⟨?_, onSwitches_framed _ s⟩
    rw [← adopted_of hq]
    rfl
  · refine yields_of_eq (u := switchInput n high s) rfl (switchInput_of_changed hchanged) ?_
    cases htakes : takesEdges s.link.state
    case false =>
      exact ⟨rfl, (onPins_framed _ s).mono (by simp), fun _ => rfl, (fun h => nomatch h)⟩
    case true =>
      refine ⟨rfl, ((onPins_framed _ s).mono (by simp)).trans ((onSwitches_framed _ _).mono (by simp)),
        (fun h => nomatch h), fun _ => rfl⟩

/-! ### The beat and the start of a series -/

theorem seriesDue_of {s : State} (hseries : s.bus.series = none) (hwire : s.bus.wire = none)
    (hlink : s.link.state ≠ .offline) (hown : ownNumber s ≠ 0) : seriesDue s = (nextSeries s).isSome := by
  simp [seriesDue, hseries, hwire, hlink, hown]

theorem yields_startSeries {s : State} {kind : SeriesKind} (hseries : s.bus.series = none) (hwire : s.bus.wire = none)
    (hlink : s.link.state ≠ .offline) (hown : ownNumber s ≠ 0) (hnext : nextSeries s = some kind) :
    Yields (exec .txSeriesStart s) fun t =>
      t = { s with bus := { s.bus with series := some { kind := kind, failed := 0, cut := false } } } := by
  have hdue : seriesDue s = true := by rw [seriesDue_of hseries hwire hlink hown, hnext]; rfl
  refine yields_of_due (due := seriesDue s) rfl hdue ?_
  simp only [State.onBus, hnext, Option.map_some]

theorem nextSeries_of_draw {s : State} (hpending : s.bus.drawPending = true) (hoff : s.link.state ≠ .offline)
    (hdup : s.link.state ≠ .duplicate) : nextSeries s = some .draw := by
  have hattempted : drawAttempted s.link.state = true := by
    cases hs : s.link.state <;> simp_all [drawAttempted]
  simp [nextSeries, hpending, hattempted]

theorem nextSeries_of_general {s : State} {g : GeneralEntry} {rest : List GeneralEntry}
    (hdraw : s.bus.drawPending = false ∨ s.link.state = .duplicate) (hgeneral : s.bus.general = g :: rest) :
    nextSeries s = some (if isReply g then .reply else .switch) := by
  have hnot : (s.bus.drawPending && drawAttempted s.link.state) = false := by
    rcases hdraw with h | h <;> simp [h, drawAttempted]
  rw [nextSeries, hnot, hgeneral]
  cases g <;> rfl

/-- Settles O55: the beat marks the draw slot; a series takes the pending draw slot before the head of the queue. -/
theorem beatAndSeriesStart : Obligations.BeatAndSeriesStart := by
  refine fun s => ⟨fun hreached => ?_, fun hseries hwire hlink hown => ⟨fun hpending hdup => ?_, fun g rest hdraw hgeneral => ?_⟩⟩
  · refine yields_of_due (due := beatDue s) rfl hreached ?_
    rw [markDraw_eq]
    rfl
  · exact yields_startSeries hseries hwire hlink hown (nextSeries_of_draw hpending hlink hdup)
  · exact yields_startSeries hseries hwire hlink hown (nextSeries_of_general hdraw hgeneral)

/-! ### The link's timers -/

/-- R126, R135: what is cut back. -/
theorem cutTransmit_eq (s : State) : cutTransmit s = { s with bus := cutBack s.bus } := by
  have hreply : (fun g : GeneralEntry => match g with | .reply _ => true | .switch _ _ _ => false) = isReply := by
    funext g
    cases g <;> rfl
  have hcut (b : Bus) : { b with
      general := b.general.filter fun g => match g with | .reply _ => true | .switch _ _ _ => false
      drawPending := false
      series := match b.series with
        | none => none
        | some r =>
          if r.kind = .reply then some r
          else if b.wire.isSome then some { r with cut := true } else none } = cutBack b := by
    unfold cutBack
    rw [hreply]
    cases b.series with
    | none => rfl
    | some r => cases b.wire <;> simp
  exact congrArg (fun b => { s with bus := b }) (hcut s.bus)

/-- A mark of the draw slot does not outlast a cut. -/
theorem cutBack_markedIf (on : Bool) (s : State) : cutBack (markedIf on s) = cutBack s.bus := rfl

theorem markedIf_of_not_mayMark {s : State} (on : Bool) (h : mayMark s = false) : markedIf on s = s.bus := by
  simp only [markedIf, h, Bool.and_false, Bool.or_false]

theorem mayMark_of_link {s t : State} (h : t.link = s.link) : mayMark t = mayMark s := by simp only [mayMark, h]

/-- R144: a change of link in a state that may not mark the draw slot. -/
theorem noteLink_of_not_mayMark {s : State} (h : mayMark s = false) :
    noteLink s = { s with sched := { s.sched with scanDue := true } } := by
  rw [noteLink, markDraw_eq, markedIf_of_not_mayMark true h]
  rfl

theorem onLink_framed (f : LinkUnit → LinkUnit) (s : State) : Framed [.link] s (s.onLink f) :=
  ⟨rfl, fun b hb => by cases b <;> first | rfl | simp at hb⟩

section
variable {s : State}

/-- R141: the link falls back to LISTEN, and the event is raised. -/
def lossReported (s : State) : State :=
  raise .linkLost (s.onLink fun l =>
    { l with state := .listen, listenWindow := some (startTimer (cs (3 * s.settings.beat))), announcedTimer := none
             silence := none })

theorem loseLink_eq : loseLink s =
    { withdraw (lossReported s) with
      bus := cutBack s.bus, sched := { (withdraw (lossReported s)).sched with scanDue := true } } := by
  have hlink : (cutTransmit (withdraw (lossReported s))).link = (lossReported s).link := by
    rw [cutTransmit_eq]
    exact (withdraw_framed (lossReported s)).2 .link (by simp)
  have hmay : mayMark (cutTransmit (withdraw (lossReported s))) = false := by
    rw [mayMark_of_link hlink]
    rfl
  have hlost : loseLink s = noteLink (cutTransmit (withdraw (lossReported s))) := rfl
  obtain ⟨on, hbus⟩ := withdraw_bus (lossReported s)
  rw [hlost, noteLink_of_not_mayMark hmay, cutTransmit_eq, hbus, cutBack_markedIf]
  rfl

theorem loseLink_framed : Framed [.link, .service, .sched, .bus] s (loseLink s) := by
  have hreported : Framed [.link, .service] s (lossReported s) :=
    ((onLink_framed _ s).mono (by simp)).trans ((raise_framed _ _).mono (by simp))
  refine (hreported.mono (by simp)).trans ?_
  refine ((withdraw_framed (lossReported s)).mono (by simp)).trans ?_
  exact ((onBus_framed _ _).mono (by simp)).trans ((noteLink_framed _).mono (by simp))

theorem loseLink_sched : (loseLink s).sched =
    { s.sched with queue := queueWithdrawn s, announce := none, scanDue := true } := by
  rw [loseLink_eq, withdraw_sched]
  rfl

theorem loseLink_before_cut {b : Block} (h : b ∉ [Block.sched, .bus]) : b.same (lossReported s) (loseLink s) := by
  have hframe : Framed [.sched, .bus] (lossReported s) (loseLink s) :=
    (withdraw_framed (lossReported s)).trans (((onBus_framed _ _).mono (by simp)).trans (noteLink_framed _))
  exact hframe.2 b h

theorem listenWindowEnds_of_due (hlisten : s.link.state = .listen) (hdue : timerReached s.link.listenWindow = true) :
    listenWindowEnds s =
      { s with link := { s.link with listenWindow := none }, bus := { s.bus with drawPending := true } } := by
  have hwindow : listenWindowDue s = true := by
    rw [listenWindowDue, hlisten, hdue]
    rfl
  have hmay : mayMark (s.onLink fun l => { l with listenWindow := none }) = true := by simp [mayMark, hlisten]
  rw [listenWindowEnds, if_pos hwindow, markDraw_eq, markedIf, hmay, Bool.true_and, Bool.or_true]
  rfl

theorem enterArmed_eq : enterArmed s = { s with
    link := { s.link with state := .armed, announcedTimer := none }
    bus := { s.bus with drawPending := true }, sched := { s.sched with scanDue := true } } := by
  rw [enterArmed, noteLink, markDraw_eq, markedIf]
  simp only [mayMark, State.onLink_link, Bool.true_and, Bool.or_true]
  rfl

end

/-- Settles O59: the window and the announced timer by their marks of the draw slot; a loss of link by its withdrawal
and its cut (`loseLink_eq`). -/
theorem linkTimers : Obligations.LinkTimers := by
  refine fun s => ⟨fun hlisten hdue => ?_, fun hannounced hdue => ?_, fun hlinked hsign => ?_⟩
  · exact ⟨_, rfl, listenWindowEnds_of_due hlisten hdue⟩
  · have hrow : announcedDue s = true := by
      rw [announcedDue, hannounced, hdue]
      rfl
    exact yields_of_due rfl hrow enterArmed_eq
  · have hrow : linkLossDue s = true := by
      simp only [linkLossDue, Bool.and_eq_true, Bool.or_eq_true, decide_eq_true_eq]
      exact ⟨hlinked, hsign⟩
    refine yields_of_due rfl hrow ⟨?_, ?_, loseLink_sched, ?_, loseLink_framed⟩
    · exact (loseLink_before_cut (b := .link) (by simp) : (loseLink s).link = _)
    · exact (loseLink_before_cut (b := .service) (by simp) : (loseLink s).service = _)
    · rw [loseLink_eq]

/-! ### Peers and the quality window -/

theorem staleDue_of {s : State} {n : Nat} {p : Peer} (hp : peerAt n s = some p) (hpresent : p.stale = false)
    (hsilent : cs (3 * max s.settings.beat p.beat) ≤ p.silence.elapsed) : staleDue n s = true := by
  simp [staleDue, hp, hpresent, staleLimit, hsilent]

theorem removalDue_of {s : State} {n : Nat} {p : Peer} (hp : peerAt n s = some p)
    (hsilent : p.silence.limit ≤ p.silence.elapsed) : removalDue n s = true := by
  simp only [removalDue, hp, Countup.reached, decide_eq_true hsilent]

/-- R149: DEGRADED becomes `d`, which owes a scan and marks the draw slot. -/
theorem setDegraded_eq (d : Bool) (s : State) : setDegraded d s = { s with
    link := { s.link with degraded := d }, sched := { s.sched with scanDue := true }, bus := markedIf true s } := by
  rw [setDegraded, markDraw_eq]
  rfl

/-- R148, R149: the value that the end of a window gives DEGRADED. -/
def degradedAfter (s : State) : Bool := decide (s.settings.quality ≤ s.link.windowBad) ||
  (s.link.degraded && decide (s.settings.quality / 2 < s.link.windowBad))

/-- R148: the counts of the window start again. -/
def windowCleared (s : State) : State := s.onLink fun l => { l with windowFrames := 0, windowBad := 0 }

/-- R148, R149: the end of a window, by what becomes of DEGRADED. -/
theorem endWindow_eq (s : State) : endWindow s =
    if degradedAfter s = s.link.degraded then windowCleared s
    else if degradedAfter s = true then raise .busDegraded (setDegraded true (windowCleared s))
    else setDegraded false (windowCleared s) := by
  have hwindow : endWindow s =
      if s.settings.quality ≤ s.link.windowBad then
        if s.link.degraded then windowCleared s else raise .busDegraded (setDegraded true (windowCleared s))
      else if s.link.windowBad ≤ s.settings.quality / 2 then
        if s.link.degraded then setDegraded false (windowCleared s) else windowCleared s
      else windowCleared s := rfl
  rw [hwindow, degradedAfter]
  by_cases hhigh : s.settings.quality ≤ s.link.windowBad
  · cases hdeg : s.link.degraded <;> simp [hhigh]
  · by_cases hlow : s.link.windowBad ≤ s.settings.quality / 2
    · cases hdeg : s.link.degraded <;> simp [hhigh, hlow, not_lt.2 hlow]
    · have hmid : s.settings.quality / 2 < s.link.windowBad := not_le.1 hlow
      cases hdeg : s.link.degraded <;> simp [hhigh, hlow, hmid]

theorem endWindow_framed (s : State) : Framed [.link, .sched, .bus, .service] s (endWindow s) := by
  have hcleared : Framed [.link, .sched, .bus, .service] s (windowCleared s) := (onLink_framed _ s).mono (by simp)
  have hset (d : Bool) : Framed [.link, .sched, .bus, .service] s (setDegraded d (windowCleared s)) := by
    refine hcleared.trans ?_
    exact ((onLink_framed _ _).mono (by simp)).trans
      (((markDraw_framed _).mono (by simp)).trans ((promptScan_framed _).mono (by simp)))
  rw [endWindow_eq]
  split
  · exact hcleared
  · split
    · exact (hset true).trans ((raise_framed _ _).mono (by simp))
    · exact hset false

/-- Settles O60: the peers by their silence; the end of a window by what becomes of DEGRADED (`endWindow_eq`). -/
theorem peersAndQuality : Obligations.PeersAndQuality := by
  refine fun s n p => ⟨fun hp hpresent hsilent => ?_, fun hp hsilent => ?_, fun hfull hruns => ?_⟩
  · exact yields_of_due (due := staleDue n s) rfl (staleDue_of hp hpresent hsilent) rfl
  · exact yields_of_due (due := removalDue n s) rfl (removalDue_of hp hsilent) rfl
  · have hdue : windowDue s = true := by
      rw [windowDue, hruns, decide_eq_true hfull]
      rfl
    have hmarked (on : Bool) : markedIf on (windowCleared s) = markedIf on s := rfl
    refine yields_of_due (due := windowDue s) rfl hdue ?_
    suffices h : (endWindow s).link =
          { s.link with windowFrames := 0, windowBad := 0, degraded := degradedAfter s } ∧
        (endWindow s).sched.scanDue = (s.sched.scanDue || decide (degradedAfter s ≠ s.link.degraded)) ∧
        (endWindow s).bus = markedIf (decide (degradedAfter s ≠ s.link.degraded)) s ∧
        (endWindow s).service.events = (if degradedAfter s = true ∧ s.link.degraded = false
          then s.service.events ||| 0x200#16 else s.service.events) ∧
        (endWindow s).service.counters = s.service.counters from
      ⟨h.1, h.2.1, h.2.2.1, h.2.2.2.1, h.2.2.2.2, endWindow_framed s⟩
    rw [endWindow_eq]
    cases hnow : degradedAfter s <;> cases hwas : s.link.degraded
    case false.false =>
      rw [if_pos rfl]
      exact ⟨by rw [← hwas]; rfl, by simp [windowCleared], (markedIf_false s).symm, rfl, rfl⟩
    case true.true =>
      rw [if_pos rfl]
      exact ⟨by rw [← hwas]; rfl, by simp [windowCleared], (markedIf_false s).symm, rfl, rfl⟩
    case false.true =>
      rw [if_neg (by decide), if_neg (by decide), setDegraded_eq, hmarked]
      exact ⟨rfl, (Bool.or_true _).symm, rfl, rfl, rfl⟩
    case true.false =>
      rw [if_neg (by decide), if_pos rfl, setDegraded_eq, hmarked]
      exact ⟨rfl, (Bool.or_true _).symm, rfl, rfl, rfl⟩

end Sys2Proof.Machine
end


section
/-! The lamps: the lamp phase and warm-ups, mode commands one by one and over a list of lamps, and LAMP frames (R106 to
R114). -/

namespace Sys2Proof.Machine

/-! ### The lamp phase and warm-ups -/

/-- Settles O44, by `lampPhase_lamps` and `warmUpDue_iff`. -/
theorem lampPhaseAndWarmUp : Obligations.LampPhaseAndWarmUp := fun s n =>
  ⟨fun hdue => ⟨lampPhase s, rfl, (lampPhase_lamps hdue).1, (lampPhase_lamps hdue).2, lampPhase_framed s⟩,
    fun hwarming hreached => yields_of_due (due := warmUpDue n s) rfl (warmUpDue_iff.2 ⟨hwarming, hreached⟩)
      ⟨rfl, onLamps_framed _ s⟩⟩

/-! ### One mode command -/

/-- The frame of the lamps alone, as an equation. -/
theorem eq_of_framed_lamps {s t : State} (h : Framed [.lamps] s t) : t = { s with lamps := t.lamps } := by
  obtain ⟨hpending, hsame⟩ := h
  have hpins : t.pins = s.pins := hsame .pins (by simp)
  have hretained : t.retained = s.retained := hsame .retained (by simp)
  have hstart : t.startUp = s.startUp := hsame .startUp (by simp)
  have hsettings : t.settings = s.settings := hsame .settings (by simp)
  have hlink : t.link = s.link := hsame .link (by simp)
  have hsched : t.sched = s.sched := hsame .sched (by simp)
  have hcoils : t.coils = s.coils := hsame .coils (by simp)
  have hthermal : t.thermal = s.thermal := hsame .thermal (by simp)
  have hswitches : t.switches = s.switches := hsame .switches (by simp)
  have hreflex : t.reflex = s.reflex := hsame .reflex (by simp)
  have hbus : t.bus = s.bus := hsame .bus (by simp)
  have hrail : t.rail = s.rail := hsame .rail (by simp)
  have hfault : t.faultLine = s.faultLine := hsame .faultLine (by simp)
  have hservice : t.service = s.service := hsame .service (by simp)
  have hfree : t.freeIndex = s.freeIndex := hsame .freeIndex (by simp)
  rw [← hpending, ← hpins, ← hretained, ← hstart, ← hsettings, ← hlink, ← hsched, ← hcoils, ← hthermal, ← hswitches,
    ← hreflex, ← hbus, ← hrail, ← hfault, ← hservice, ← hfree]

theorem applyMode_eq (cmd : ModeCommand) (ch : LampChannel) :
    applyMode cmd ch = { ch with mode := (commanded cmd ch).1, flash := (commanded cmd ch).2 } := by
  cases cmd <;> rfl

section
variable (n : LampNo) (cmd : ModeCommand) (s : State)

theorem lampCommand_lamps : (lampCommand n cmd s).lamps =
    lampsGiven s.settings.lamps [n] (fun _ => commanded cmd s.lamps.lamps[n]) s.lamps :=
  setLampChannel_lamps (applyMode_eq cmd _)

theorem lampCommand_lamp (m : LampNo) : (lampCommand n cmd s).lamps.lamps[m] =
    if m = n then lampGiven s.settings.lamps[m] s.lamps.lamps[m] (commanded cmd s.lamps.lamps[n]).1
      (commanded cmd s.lamps.lamps[n]).2 else s.lamps.lamps[m] :=
  setLampChannel_lamp (applyMode_eq cmd _) m

theorem lampCommand_eq : lampCommand n cmd s = { s with
    lamps := lampsGiven s.settings.lamps [n] (fun _ => commanded cmd s.lamps.lamps[n]) s.lamps } := by
  rw [← lampCommand_lamps]
  exact eq_of_framed_lamps (lampCommand_framed n cmd s)

end

/-- Settles O45: the command's mode and record are given to the lamp (`lampCommand_lamps`), and its drive and the queue
follow as for any new mode and record (`lampsGiven_singleton`). -/
theorem modeCommands : Obligations.ModeCommands := by
  intro s n cmd
  have hown : (lampCommand n cmd s).lamps.lamps[n] = lampGiven s.settings.lamps[n] s.lamps.lamps[n] _ _ :=
    (lampCommand_lamp n cmd s n).trans (if_pos rfl)
  have hqueue := congrArg LampUnit.queue ((lampCommand_lamps n cmd s).trans (lampsGiven_singleton ..))
  have hphase := congrArg LampUnit.phase (lampCommand_lamps n cmd s)
  dsimp only at hqueue ⊢
  rw [hown, hqueue, hphase, lampsGiven_phase, demandLit_eq_demands]
  generalize commanded cmd s.lamps.lamps[n] = new
  generalize s.settings.lamps[n] = cfg
  generalize s.lamps.lamps[n] = ch
  refine ⟨rfl, fun hplain => ?_, fun hinc => ⟨fun hdim => ?_, fun hlit hdark => ?_, fun hlit hdark => ?_⟩,
    fun m hm => (lampCommand_lamp n cmd s m).trans (if_neg hm), rfl, lampCommand_framed n cmd s⟩
  · rw [hplain]
    cases hlit : demands new.1 new.2 <;> simp [lampGiven, hlit, hplain]
  · have hoff : demands new.1 new.2 = false := hdim
    simp [lampGiven, hoff, hinc]
  · have hon : demands new.1 new.2 = true := hlit
    simp [lampGiven, hon, hinc, hdark]
  · have hon : demands new.1 new.2 = true := hlit
    simp [lampGiven, hon, hinc, hdark]

/-! ### A command to each lamp of a list -/

section
variable {cfg : Vector LampSettings 24} {u : LampUnit}

theorem lampsGiven_pwmPhase (ns : List LampNo) (new : LampNo → LampMode × Option Flash) :
    (lampsGiven cfg ns new u).pwmPhase = u.pwmPhase := by
  unfold lampsGiven
  rfl

theorem lampUnit_eq {v w : LampUnit} (hlamps : v.lamps = w.lamps) (hqueue : v.queue = w.queue)
    (hphase : v.phase = w.phase) (hpwm : v.pwmPhase = w.pwmPhase) : v = w := by
  cases v
  cases w
  cases hlamps
  cases hqueue
  cases hphase
  cases hpwm
  rfl

/-- The lamp goes dark, or begins to wait, as it takes its mode and record of `new` (R110, R111). -/
def lampDims (cfg : Vector LampSettings 24) (new : LampNo → LampMode × Option Flash) (n : LampNo) : Bool :=
  cfg[n].incandescent && !demands (new n).1 (new n).2

@[inherit_doc lampDims]
def lampJoins (cfg : Vector LampSettings 24) (new : LampNo → LampMode × Option Flash) (u : LampUnit) (n : LampNo) :
    Bool := cfg[n].incandescent && demands (new n).1 (new n).2 && decide (u.lamps[n].stage = .dark)

theorem lampsGiven_queue (ns : List LampNo) (new : LampNo → LampMode × Option Flash) :
    (lampsGiven cfg ns new u).queue =
      (u.queue.filter fun n => !(decide (n ∈ ns) && lampDims cfg new n)) ++ ns.filter (lampJoins cfg new u) := rfl

theorem lampsGiven_lamps_ext {ns : List LampNo} {new : LampNo → LampMode × Option Flash} {v : Vector LampChannel 24}
    (h : ∀ n : LampNo, (if n ∈ ns then lampGiven cfg[n] u.lamps[n] (new n).1 (new n).2 else u.lamps[n]) = v[n]) :
    (lampsGiven cfg ns new u).lamps = v :=
  Vector.ext fun i hi => (lampsGiven_lamp cfg new u ns ⟨i, hi⟩).trans (h ⟨i, hi⟩)

theorem lampsGiven_nil (new : LampNo → LampMode × Option Flash) : lampsGiven cfg [] new u = u := by
  have hlamps : (lampsGiven cfg [] new u).lamps = u.lamps :=
    lampsGiven_lamps_ext fun n => if_neg List.not_mem_nil
  have hqueue : (lampsGiven cfg [] new u).queue = u.queue := by
    rw [lampsGiven_queue, List.filter_nil, List.append_nil]
    exact List.filter_eq_self.2 fun n _ => rfl
  exact lampUnit_eq hlamps hqueue (lampsGiven_phase ..) (lampsGiven_pwmPhase ..)

theorem lampsGiven_congr {ns : List LampNo} {new new' : LampNo → LampMode × Option Flash}
    (h : ∀ n ∈ ns, new n = new' n) : lampsGiven cfg ns new u = lampsGiven cfg ns new' u := by
  have hlamps : (lampsGiven cfg ns new u).lamps = (lampsGiven cfg ns new' u).lamps := by
    refine lampsGiven_lamps_ext fun n => ?_
    rw [lampsGiven_lamp]
    split
    next hn => rw [h n hn]
    next => rfl
  have hqueue : (lampsGiven cfg ns new u).queue = (lampsGiven cfg ns new' u).queue := by
    rw [lampsGiven_queue, lampsGiven_queue]
    congr 1
    · refine List.filter_congr fun n _ => ?_
      by_cases hn : n ∈ ns
      · rw [lampDims, lampDims, h n hn]
      · rw [decide_eq_false hn, Bool.false_and, Bool.false_and]
    · exact List.filter_congr fun n hn => by rw [lampJoins, lampJoins, h n hn]
  exact lampUnit_eq hlamps hqueue (by simp only [lampsGiven_phase]) (by simp only [lampsGiven_pwmPhase])

section
variable {n : LampNo} {ns : List LampNo} (new : LampNo → LampMode × Option Flash)

theorem lampsGiven_other {m : LampNo} (hm : m ≠ n) : (lampsGiven cfg [n] new u).lamps[m] = u.lamps[m] :=
  (lampsGiven_lamp cfg new u [n] m).trans (if_neg fun h => hm (List.mem_singleton.1 h))

theorem lampsGiven_cons_lamps (hn : n ∉ ns) :
    (lampsGiven cfg (n :: ns) new u).lamps = (lampsGiven cfg ns new (lampsGiven cfg [n] new u)).lamps := by
  refine lampsGiven_lamps_ext fun m => ?_
  rw [lampsGiven_lamp]
  by_cases hm : m = n
  · rw [hm, if_pos List.mem_cons_self, if_neg hn, lampsGiven_lamp, if_pos (List.mem_singleton_self n)]
  · rw [lampsGiven_other new hm]
    simp only [List.mem_cons, hm, false_or]

theorem lampsGiven_cons_queue (hn : n ∉ ns) :
    (lampsGiven cfg (n :: ns) new u).queue = (lampsGiven cfg ns new (lampsGiven cfg [n] new u)).queue := by
  have hjoins : ns.filter (lampJoins cfg new (lampsGiven cfg [n] new u)) = ns.filter (lampJoins cfg new u) :=
    List.filter_congr fun m hm => by
      rw [lampJoins, lampJoins, lampsGiven_other new (ne_of_mem_of_not_mem hm hn)]
  have htail : (([n].filter (lampJoins cfg new u)).filter fun m => !(decide (m ∈ ns) && lampDims cfg new m)) =
      [n].filter (lampJoins cfg new u) := List.filter_eq_self.2 fun m hm => by
    rw [List.mem_singleton.1 (List.mem_of_mem_filter hm), decide_eq_false hn, Bool.false_and, Bool.not_false]
  have hleft : (fun m => !(decide (m ∈ n :: ns) && lampDims cfg new m)) = fun m =>
      !(decide (m ∈ ns) && lampDims cfg new m) && !(decide (m ∈ [n]) && lampDims cfg new m) := by
    have hbool : ∀ a b d : Bool, (!((a || b) && d)) = (!(b && d) && !(a && d)) := by decide
    funext m
    have hmem : decide (m ∈ n :: ns) = (decide (m ∈ [n]) || decide (m ∈ ns)) := by simp
    rw [hmem, hbool]
  rw [lampsGiven_queue, lampsGiven_queue, hjoins, lampsGiven_queue, List.filter_append, htail, List.filter_filter,
    List.append_assoc, ← List.filter_append, List.singleton_append, hleft]

/-- The lamps of a list take their modes one after another: the first, and then those of the rest. -/
theorem lampsGiven_cons (hn : n ∉ ns) :
    lampsGiven cfg (n :: ns) new u = lampsGiven cfg ns new (lampsGiven cfg [n] new u) := by
  exact lampUnit_eq (lampsGiven_cons_lamps new hn) (lampsGiven_cons_queue new hn) (by simp only [lampsGiven_phase])
    (by simp only [lampsGiven_pwmPhase])

end

end

/-- The lamps of a list, each given its mode and record by its settings and by the channel as it stands. -/
theorem foldl_lampsGiven {f : State → LampNo → State}
    {new : Vector LampSettings 24 → LampNo → LampChannel → LampMode × Option Flash}
    (hf : ∀ s n, f s n = { s with
      lamps := lampsGiven s.settings.lamps [n] (fun m => new s.settings.lamps m s.lamps.lamps[m]) s.lamps })
    {ns : List LampNo} (hns : ns.Nodup) (s : State) : ns.foldl f s = { s with
      lamps := lampsGiven s.settings.lamps ns (fun m => new s.settings.lamps m s.lamps.lamps[m]) s.lamps } := by
  induction ns generalizing s with
  | nil => rw [lampsGiven_nil, List.foldl_nil]
  | cons n ns ih =>
    obtain ⟨hn, hns⟩ := List.nodup_cons.1 hns
    rw [List.foldl_cons, ih hns, hf s n, lampsGiven_cons _ hn]
    refine congrArg (fun u => { s with lamps := u }) (lampsGiven_congr fun m hm => ?_)
    exact congrArg (new s.settings.lamps m) (lampsGiven_other _ (ne_of_mem_of_not_mem hm hn))

/-- A singleton takes its mode of the lamp alone. -/
theorem lampCommand_eq_given (n : LampNo) (cmd : LampNo → ModeCommand) (s : State) :
    lampCommand n (cmd n) s = { s with
      lamps := lampsGiven s.settings.lamps [n] (fun m => commanded (cmd m) s.lamps.lamps[m]) s.lamps } := by
  rw [lampCommand_eq]
  refine congrArg (fun u => { s with lamps := u }) (lampsGiven_congr fun m hm => ?_)
  rw [List.mem_singleton.1 hm]

theorem allLamps_nodup : allLamps.Nodup := List.nodup_finRange 24

/-! ### LAMP frames -/

section
variable {mode : Nat} (half count : Nat) (finalOn : Bool)

theorem commandFor_eq (hmode : mode < 4) (s : State) (n : LampNo) : commandFor s n mode half count finalOn =
    some (commandOfCode mode half count finalOn s.settings.lamps[n].halfPeriod) := by
  match mode, hmode with
  | 0, _ | 1, _ | 2, _ | 3, _ => rfl

/-- R113, R114: each lamp of the list takes the command of the mode code. -/
theorem commandLamps_eq (hmode : mode < 4) {ns : List LampNo} (hns : ns.Nodup) (s : State) :
    commandLamps ns mode half count finalOn s = { s with
      lamps := lampsGiven s.settings.lamps ns
        (fun m => commanded (commandOfCode mode half count finalOn s.settings.lamps[m].halfPeriod) s.lamps.lamps[m])
        s.lamps } := by
  refine foldl_lampsGiven
    (new := fun cfg m ch => commanded (commandOfCode mode half count finalOn cfg[m].halfPeriod) ch) (fun s n => ?_) hns s
  rw [commandFor_eq half count finalOn hmode]
  exact lampCommand_eq_given n (fun m => commandOfCode mode half count finalOn s.settings.lamps[m].halfPeriod) s

theorem commandLamps_singleton (hmode : mode < 4) (n : LampNo) (s : State) :
    commandLamps [n] mode half count finalOn s =
      lampCommand n (commandOfCode mode half count finalOn s.settings.lamps[n].halfPeriod) s := by
  simp only [commandLamps, List.foldl_cons, List.foldl_nil, commandFor_eq half count finalOn hmode]

end

theorem lampsNamed_of_lamp (n : LampNo) : lampsNamed n.val = [n] := dif_pos n.isLt

theorem lampsNamed_all : lampsNamed 255 = allLamps := rfl

theorem lampsNamed_isEmpty {n : Nat} : (lampsNamed n).isEmpty = true ↔ 24 ≤ n ∧ n ≠ 255 := by
  unfold lampsNamed
  split
  next h => exact iff_of_false (by simp) (by omega)
  next h =>
    split
    next h' => exact iff_of_false (by decide) (by omega)
    next h' => exact iff_of_true rfl ⟨by omega, h'⟩

theorem lampsRun_iff {l : LinkState} : lampsRun l = true ↔ l ≠ .offline ∧ l ≠ .held := by
  cases l <;> simp [lampsRun]

/-! ### What every good frame does -/

theorem noteFrame_framed (bad : Bool) (s : State) : Framed [.link, .sched, .bus, .service] s (noteFrame bad s) := by
  unfold noteFrame
  split
  · dsimp only
    split
    · exact (endWindow_framed s).trans ((onLink_framed _ _).mono (by simp))
    · exact (onLink_framed _ s).mono (by simp)
  · exact Framed.refl _ s

theorem heard_framed (s : State) : Framed [.link] s (heard s) := by
  unfold heard
  split
  · exact onLink_framed _ s
  · exact onLink_framed _ s
  · exact Framed.refl _ s

/-- R122, R125, R141, R148: a good frame is counted, heard, and enters the quality window. -/
theorem takeGood_framed (s : State) : Framed [.link, .sched, .bus, .service] s (takeGood s) := by
  have hreceived : Framed [.link, .sched, .bus, .service] s (received s) := (onBus_framed _ s).mono (by simp)
  have hcounted : Framed [.link, .sched, .bus, .service] (received s) (count .good (received s)) :=
    (count_framed .good _).mono (by simp)
  exact (hreceived.trans hcounted).trans (((heard_framed _).mono (by simp)).trans (noteFrame_framed false _))

theorem takeGood_settings (s : State) : (takeGood s).settings = s.settings := (takeGood_framed s).2 .settings (by simp)

theorem takeGood_coils (s : State) : (takeGood s).coils = s.coils := (takeGood_framed s).2 .coils (by simp)

theorem takeGood_pins (s : State) : (takeGood s).pins = s.pins := (takeGood_framed s).2 .pins (by simp)

theorem takeGood_faultLine (s : State) : (takeGood s).faultLine = s.faultLine :=
  (takeGood_framed s).2 .faultLine (by simp)

theorem takeGood_lamps (s : State) : (takeGood s).lamps = s.lamps := (takeGood_framed s).2 .lamps (by simp)

theorem goodRow_of {d : Destination} {rx : List Byte} {f : Frame} {s : State} (h : goodFrameFor d rx s = some f)
    (owner : Frame → State → State) : goodRow d rx owner s = owner f (takeGood s) := by
  simp only [goodRow, h]

/-- A row of a good frame that the filter sends to the row's owner. -/
theorem yields_goodRow {i : Instr} {d : Destination} {rx : List Byte} {owner : Frame → State → State} {f : Frame}
    {s : State} {P : State → Prop} (hrow : exec i s = .next (goodRow d rx owner s))
    (hgood : goodFrameFor d rx s = some f) (h : P (owner f (takeGood s))) : Yields (exec i s) P :=
  yields_of_eq hrow (goodRow_of hgood owner) h

/-! ### A LAMP frame taken -/

section
variable (payload : List Byte) (s : State)

theorem fieldAt_low (l : List Byte) (n hi : Nat) : fieldAt l n hi 0 = byteAt l n % 2 ^ (hi + 1) := by
  rw [fieldAt, pow_zero, Nat.div_one, Nat.sub_zero]

theorem fieldAt_high (l : List Byte) (n : Nat) : fieldAt l n 7 4 = byteAt l n / 16 := by
  have hlt := byteAt_lt l n
  rw [fieldAt]
  exact Nat.mod_eq_of_lt (by omega)

theorem bitAt_eq (l : List Byte) (n b : Nat) : bitAt l n b = decide (byteAt l n / 2 ^ b % 2 = 1) :=
  Nat.testBit_eq_decide_div_mod_eq

/-- R113: the lamps named take the command, or the frame is counted as ignored. -/
theorem takeLampFrame_eq : takeLampFrame payload s =
    if (s.link.state ≠ .offline ∧ s.link.state ≠ .held) ∧ ¬(24 ≤ byteAt payload 0 ∧ byteAt payload 0 ≠ 255) ∧
      byteAt payload 1 % 8 < 4
    then commandLamps (lampsNamed (byteAt payload 0)) (byteAt payload 1 % 8) (byteAt payload 2) (byteAt payload 1 / 16)
      (decide (byteAt payload 1 / 8 % 2 = 1)) s
    else count .ignored s := by
  unfold takeLampFrame
  dsimp only
  rw [fieldAt_low, fieldAt_high, bitAt_eq]
  refine if_congr ?_ rfl rfl
  simp only [Bool.and_eq_true, decide_eq_true_eq, lampsRun_iff, Bool.not_eq_true', ← Bool.not_eq_true,
    lampsNamed_isEmpty, and_assoc]
  rfl

end

/-- Settles O46: the frame's owner, by `takeLampFrame_eq`; one lamp by its command, all of them by `commandLamps_eq`. -/
theorem lampFrameTaken : Obligations.LampFrameTaken := by
  intro s rx f hgood
  refine yields_goodRow (owner := fun f s => takeLampFrame f.payload s) rfl hgood ?_
  dsimp only
  rw [takeLampFrame_eq, takeGood_linkState]
  refine ⟨fun hnot => ?_, fun n htaken hn => ?_, fun htaken hall => ?_⟩
  · rw [if_neg (fun ⟨⟨hoff, hheld⟩, hnamed, hmode⟩ => hnot.elim (fun h => h ⟨hoff, hheld, hmode⟩) hnamed)]
    exact countedOnly_count .ignored _
  · obtain ⟨hoff, hheld, hmode⟩ := htaken
    have hlt := n.isLt
    rw [if_pos ⟨⟨hoff, hheld⟩, by omega, hmode⟩, hn, lampsNamed_of_lamp, commandLamps_singleton _ _ _ hmode,
      takeGood_settings]
  · obtain ⟨hoff, hheld, hmode⟩ := htaken
    rw [if_pos ⟨⟨hoff, hheld⟩, by omega, hmode⟩, hall, lampsNamed_all, commandLamps_eq _ _ _ hmode allLamps_nodup,
      takeGood_settings, takeGood_lamps]

end Sys2Proof.Machine
end


section
/-! The receive side: the receive filter (R123, R124), FIRE frames, and the service requests (R126, R168). -/

namespace Sys2Proof.Machine

/-! ### The receive filter -/

section
variable {own : Nat} {l : LinkState} {f : Frame}

/-- Checks 1 to 4 of Table 8-9 hold: then the checks on length, address and payload, and the owner. -/
theorem destination_of_addressed (hzero : f.src ≠ 0) (hsrc : f.src ≤ 31) (hown : f.src ≠ own)
    (hdst : f.dst = 0 ∨ f.dst = own) (hlow : 1 ≤ f.kind) (hhigh : f.kind ≤ 6) : destination own l f =
    if lengthSuits f.kind f.payload.length = true ∧ addressSuits f = true ∧ payloadSuits f = true then ownerOf l f
    else .ignored := by
  have hdst' : ¬(f.dst ≠ 0 ∧ f.dst ≠ own) := fun ⟨h, h'⟩ => hdst.elim h h'
  rw [destination, if_neg (by omega), if_neg hown, if_neg hdst', if_neg (by omega)]
  cases lengthSuits f.kind f.payload.length
  · rfl
  · cases addressSuits f
    · rfl
    · cases payloadSuits f <;> rfl

theorem ite_ite_ignored {p q r : Prop} [Decidable p] [Decidable q] [Decidable r] {d : Destination} (h : r ↔ p ∧ q) :
    (if p then if q then d else .ignored else .ignored) = if r then d else .ignored := by
  by_cases hp : p <;> by_cases hq : q <;> simp [hp, hq, h]

/-- A kind that only another link state than OFFLINE takes. -/
theorem ownerOf_eq {d : Destination} (hlamp : f.kind ≠ 4) (howner : l ≠ .offline → ownerOf l f = d) :
    ownerOf l f = if l ≠ .offline then d else .ignored := by
  split
  next h => exact howner h
  next h => rw [ownerOf, if_neg hlamp, if_pos (not_not.1 h)]

end

/-- Settles O50: the checks in order; a frame that passes the first four goes by its kind (`destination_of_addressed`). -/
theorem receiveFilter : Obligations.ReceiveFilter := by
  intro own l f hsrc
  refine ⟨fun hzero => if_pos (.inl hzero), fun hzero hown => ?_, fun hzero hown => ⟨fun hout => ?_, fun hdst hlow hhigh => ?_⟩⟩
  · rw [destination, if_neg (by omega), if_pos hown]
  · rw [destination, if_neg (by omega), if_neg hown]
    rcases hout with hdst | hkind
    · exact if_pos hdst
    · rw [if_pos hkind, ite_self]
  · rw [destination_of_addressed hzero hsrc hown hdst hlow hhigh]
    refine ⟨fun hkind => ?_, fun hkind => ?_, fun hkind => ?_, fun hkind => ?_, fun hkind => ?_, fun hkind => ?_⟩
    · have howner : ownerOf l f = if l ≠ .offline then .draw else .ignored :=
        ownerOf_eq (by omega) fun hl => by simp [ownerOf, hkind, hl]
      rw [howner]
      refine ite_ite_ignored ?_
      simp [lengthSuits, addressSuits, payloadSuits, hkind]
      tauto
    · have howner : ownerOf l f = if l ≠ .offline then .switch else .ignored :=
        ownerOf_eq (by omega) fun hl => by simp [ownerOf, hkind, hl]
      rw [howner]
      refine ite_ite_ignored ?_
      simp [lengthSuits, addressSuits, payloadSuits, hkind]
      tauto
    · have howner : ownerOf l f = if l ≠ .offline then .fire else .ignored :=
        ownerOf_eq (by omega) fun hl => by simp [ownerOf, hkind, hl]
      rw [howner]
      refine ite_ite_ignored ?_
      simp [lengthSuits, addressSuits, payloadSuits, hkind, fieldAt_low]
      tauto
    · simp [lengthSuits, addressSuits, payloadSuits, ownerOf, hkind]
    · have howner : ownerOf l f = if l ≠ .offline then .service (byteAt f.payload 0) else .ignored :=
        ownerOf_eq (by omega) fun hl => by simp [ownerOf, hkind, hl]
      rw [howner]
      refine ite_ite_ignored ?_
      simp [lengthSuits, addressSuits, payloadSuits, hkind]
      tauto
    · simp [addressSuits, hkind]

/-! ### FIRE frames -/

section
variable {own : Nat} {l : LinkState} {f : Frame}

theorem destination_eq_ownerOf {d : Destination} (h : destination own l f = d) (hignored : d ≠ .ignored)
    (hown : d ≠ .ownNumber) : ownerOf l f = d := by
  rcases destination_cases own l f with hcase | hcase | hcase
  · exact absurd (h.symm.trans hcase) hignored
  · exact absurd (h.symm.trans hcase) hown
  · exact hcase.symm.trans h

/-- A frame that goes to an owner of its own has passed the check on its payload. -/
theorem payloadSuits_of_destination {d : Destination} (h : destination own l f = d) (hignored : d ≠ .ignored)
    (hown : d ≠ .ownNumber) : payloadSuits f = true := by
  have hcases : destination own l f = .ignored ∨ destination own l f = .ownNumber ∨ payloadSuits f = true := by
    cases hsuits : payloadSuits f
    · simp only [destination, hsuits, if_true, ite_self]
      split
      · exact .inl rfl
      · split
        · exact .inr (.inl rfl)
        · exact .inl rfl
    · exact .inr (.inr rfl)
  rcases hcases with hcase | hcase | hcase
  · exact absurd (h.symm.trans hcase) hignored
  · exact absurd (h.symm.trans hcase) hown
  · exact hcase

theorem kind_of_fire (h : ownerOf l f = .fire) : f.kind = 3 := by
  unfold ownerOf at h
  split at h
  · exact nomatch h
  · split at h
    · exact nomatch h
    · split at h
      next => exact nomatch h
      next => exact nomatch h
      next hkind => exact hkind
      next => exact nomatch h
      next => exact nomatch h

end

theorem actionOf_eq (payload : List Byte) : actionOf payload =
    if byteAt payload 1 % 4 = 0 then .pulse else if byteAt payload 1 % 4 = 1 then .engage else .release := by
  rw [actionOf, fieldAt_low]
  show (match byteAt payload 1 % 4 with | 0 => CoilAction.pulse | 1 => .engage | _ => .release) = _
  split
  next h => rw [if_pos h]
  next h => rw [if_neg (by omega), if_pos h]
  next h h' => rw [if_neg h, if_neg h']

theorem coilNumber_of_lt {n : Nat} (h : n < 16) : coilNumber n = some ⟨n, h⟩ := dif_pos h

/-- Settles O34: a frame for the fire scheduler names a coil, by check 7 of the filter. -/
theorem fireFrameIsRequest : Obligations.FireFrameIsRequest := by
  intro s rx f hgood
  have hdest := goodFrameFor_destination hgood
  have hkind := kind_of_fire (destination_eq_ownerOf hdest (by decide) (by decide))
  have hsuits := payloadSuits_of_destination hdest (by decide) (by decide)
  simp only [payloadSuits, hkind, Bool.and_eq_true, decide_eq_true_eq] at hsuits
  have hcoil : byteAt f.payload 0 < 16 := Nat.lt_succ_of_le hsuits.1
  refine yields_goodRow (owner := takeFire) rfl hgood ⟨⟨_, hcoil⟩, rfl, ?_⟩
  simp only [takeFire, coilNumber_of_lt hcoil, actionOf_eq, fieldAt_high, presentedCount]

/-! ### Service requests -/

section
variable {s : State}

theorem requestTaken_iff (s : State) : requestTaken s.bus = true ↔
    if ∃ g ∈ s.bus.general, isReply g = true then
      ¬((∃ r, s.bus.series = some r ∧ r.kind = .reply) ∧ s.bus.wire ≠ none)
    else s.bus.general.length < 15 := by
  have hwire : replyOnWire s.bus = true ↔ (∃ r, s.bus.series = some r ∧ r.kind = .reply) ∧ s.bus.wire ≠ none := by
    unfold replyOnWire
    cases s.bus.series <;> simp [Option.isSome_iff_ne_none]
  rw [requestTaken, ← hwire]
  by_cases hany : ∃ g ∈ s.bus.general, isReply g = true
  · rw [if_pos (List.any_eq_true.2 hany), if_pos hany, Bool.not_eq_true', Bool.not_eq_true]
  · rw [if_neg fun h => hany (List.any_eq_true.1 h), if_neg hany, decide_eq_true_iff]

theorem endWindow_bus (s : State) : (endWindow s).bus = { s.bus with drawPending := (endWindow s).bus.drawPending } := by
  have hset (d : Bool) : (setDegraded d (windowCleared s)).bus = markedIf true (windowCleared s) := by
    rw [setDegraded_eq]
  have hmarked {t : State} (h : t.bus = markedIf true (windowCleared s)) :
      t.bus = { s.bus with drawPending := t.bus.drawPending } := by
    rw [h]
    rfl
  rw [endWindow_eq]
  split
  · rfl
  · split
    · exact hmarked (hset true)
    · exact hmarked (hset false)

theorem noteFrame_bus (bad : Bool) (s : State) :
    (noteFrame bad s).bus = { s.bus with drawPending := (noteFrame bad s).bus.drawPending } := by
  unfold noteFrame
  split
  · dsimp only
    split
    · exact endWindow_bus s
    · rfl
  · rfl

/-- R122: of the bus a good frame changes the receiver, and, at the end of a window, the mark of the draw slot. -/
theorem takeGood_bus (s : State) :
    (takeGood s).bus = { s.bus with receiver := .complete, drawPending := (takeGood s).bus.drawPending } := by
  have hheard : (heard (count .good (received s))).bus = { s.bus with receiver := .complete } :=
    (heard_framed _).2 .bus (by simp)
  exact (noteFrame_bus false _).trans (by rw [hheard]; rfl)

theorem requestTaken_takeGood (s : State) : requestTaken (takeGood s).bus = requestTaken s.bus := by
  refine requestTaken_congr ?_ ?_ ?_ <;> rw [takeGood_bus]

/-! ### The argument bytes and the reply -/

theorem byteAt_drop (l : List Byte) (i n : Nat) : byteAt (l.drop i) n = byteAt l (i + n) := by
  simp only [byteAt, List.getD_eq_getElem?_getD, List.getElem?_drop]

/-- R168: argument `i` of a request is byte `i + 1` of its payload. -/
theorem argument_eq (payload : List Byte) (i lo hi : Nat) : argument (payload.drop 1) i lo hi =
    if i + 2 ≤ payload.length ∧ lo ≤ byteAt payload (1 + i) ∧ byteAt payload (1 + i) ≤ hi
    then some (byteAt payload (1 + i)) else none := by
  have hlen : i < (payload.drop 1).length ↔ i + 2 ≤ payload.length := by
    rw [List.length_drop]
    omega
  rw [argument, byteAt_drop]
  simp only [hlen, ite_and]

section
variable {code : Nat} {rx : List Byte} {f : Frame} {act : List Byte → State → State × Reply} {done : State → State}
  {r : Reply}

/-- R126, R168: a request that does `done` and leaves reply `r` when it is taken. -/
theorem answered_serveRequest {args : List Byte} (hact : act args (takeGood s) = (done (takeGood s), r)) :
    Answered done r s (serveRequest act args (takeGood s)) := by
  rw [serveRequest, requestTaken_takeGood]
  refine ⟨fun htaken => ?_, fun hnot => ?_⟩
  · rw [if_pos htaken, hact]
    rfl
  · rw [if_neg (ne_true_of_eq_false hnot)]
    exact countedOnly_count .ignored _

theorem yields_answered {i : Instr} (hrow : exec i s = .next (serviceRow code act rx s))
    (hgood : goodFrameFor (.service code) rx s = some f)
    (hact : act (f.payload.drop 1) (takeGood s) = (done (takeGood s), r)) :
    Yields (exec i s) (Answered done r s) :=
  yields_goodRow hrow hgood (answered_serveRequest hact)

end

end

section
variable (payload : List Byte) (u : State)

theorem serveReadCounters_eq : serveReadCounters (payload.drop 1) u =
    (u, if 2 ≤ payload.length ∧ byteAt payload 1 ≤ 2 then okWith 3 (.counters (byteAt payload 1)) else bare 3 1) := by
  rw [serveReadCounters, argument_eq]
  by_cases h : 2 ≤ payload.length ∧ byteAt payload 1 ≤ 2
  · rw [if_pos ⟨h.1, Nat.zero_le _, h.2⟩, if_pos h]
    rfl
  · rw [if_neg fun ⟨hlen, _, hle⟩ => h ⟨hlen, hle⟩, if_neg h]
    rfl

theorem serveReadPeer_eq : serveReadPeer (payload.drop 1) u =
    (u, if 2 ≤ payload.length ∧ 1 ≤ byteAt payload 1 ∧ byteAt payload 1 ≤ 30 then okWith 4 (.peer (byteAt payload 1))
      else bare 4 1) := by
  rw [serveReadPeer, argument_eq]
  by_cases h : 2 ≤ payload.length ∧ 1 ≤ byteAt payload 1 ∧ byteAt payload 1 ≤ 30
  · rw [if_pos h, if_pos h]
    rfl
  · rw [if_neg h, if_neg h]
    rfl

theorem argument_of_le {i hi : Nat} (hlen : i + 2 ≤ payload.length) (h : byteAt payload (1 + i) ≤ hi) :
    argument (payload.drop 1) i 0 hi = some (byteAt payload (1 + i)) := by
  rw [argument_eq, if_pos ⟨hlen, Nat.zero_le _, h⟩]

theorem argument_of_not {i hi : Nat} (h : ¬i + 2 ≤ payload.length ∨ hi < byteAt payload (1 + i)) :
    argument (payload.drop 1) i 0 hi = none := by
  rw [argument_eq, if_neg fun ⟨hlen, _, hle⟩ => h.elim (fun h => h hlen) (fun h => absurd hle (not_le.2 h))]

theorem serveReadCoil_of_coil {c : CoilNo} (hlen : 2 ≤ payload.length) (hc : byteAt payload 1 = c.val) :
    serveReadCoil (payload.drop 1) u = (u, okWith 5 (.coil c)) := by
  have hle : byteAt payload (1 + 0) ≤ 15 := hc ▸ Nat.le_of_lt_succ c.isLt
  rw [serveReadCoil, argument_of_le payload hlen hle, Option.bind_some, Nat.add_zero, hc, coilNumber_of_lt c.isLt]
  rfl

theorem serveReadCoil_of_range (h : ¬2 ≤ payload.length ∨ 16 ≤ byteAt payload 1) :
    serveReadCoil (payload.drop 1) u = (u, bare 5 1) := by
  rw [serveReadCoil, argument_of_not payload h]
  rfl

theorem switchNumber_of_lt {n : Nat} (h : n < 32) : switchNumber n = some ⟨n, h⟩ := dif_pos h

theorem serveReadSwitch_of_switch {n : SwitchNo} (hlen : 2 ≤ payload.length) (hn : byteAt payload 1 = n.val) :
    serveReadSwitch (payload.drop 1) u = (u, okWith 6 (.switch n)) := by
  have hle : byteAt payload (1 + 0) ≤ 31 := hn ▸ Nat.le_of_lt_succ n.isLt
  rw [serveReadSwitch, argument_of_le payload hlen hle, Option.bind_some, Nat.add_zero, hn, switchNumber_of_lt n.isLt]
  rfl

theorem serveReadSwitch_of_range (h : ¬2 ≤ payload.length ∨ 32 ≤ byteAt payload 1) :
    serveReadSwitch (payload.drop 1) u = (u, bare 6 1) := by
  rw [serveReadSwitch, argument_of_not payload h]
  rfl

end

section
variable {s : State} {rx : List Byte} {f : Frame} {code : Nat}

theorem goodFrame_of_goodFrameFor {d : Destination} (h : goodFrameFor d rx s = some f) : goodFrame rx s = some f := by
  unfold goodFrameFor at h
  split at h
  · exact nomatch h
  next f' hf' =>
    split at h
    · rw [hf', Option.some.inj h]
    · exact nomatch h

theorem code_of_service {l : LinkState} (h : ownerOf l f = .service code) : code = byteAt f.payload 0 := by
  unfold ownerOf at h
  split at h
  · exact nomatch h
  · split at h
    · exact nomatch h
    · split at h
      next => exact nomatch h
      next => exact nomatch h
      next => exact nomatch h
      next => exact (Destination.service.inj h).symm
      next => exact nomatch h

/-- R168: the row of a code that is not in Table 11-4 takes that code's frame. -/
theorem unknownRequest_of (hgood : goodFrameFor (.service code) rx s = some f) (hcode : code = 0 ∨ 11 ≤ code) :
    unknownRequest rx s = serviceRow code (serveUnknown code) rx s := by
  have hbyte : code = byteAt f.payload 0 :=
    code_of_service (destination_eq_ownerOf (goodFrameFor_destination hgood) (by simp) (by simp))
  have hunknown : unknownCode code = true := by
    simp only [unknownCode, Bool.or_eq_true, decide_eq_true_eq]
    omega
  simp only [unknownRequest, goodFrame_of_goodFrameFor hgood, hunknown, if_true, ← hbyte]

end

/-- Settles O53: each request by its argument (`argument_eq`) and the reply it leaves (`answered_serveRequest`). -/
theorem readRequestsAnswered : Obligations.ReadRequestsAnswered := by
  refine fun s rx f code => ⟨requestTaken_iff s, fun hgood => ⟨fun h => ?_, fun h => ?_, fun h => ?_, fun h => ?_,
    fun h => ⟨fun c hlen hc => ?_, fun hrange => ?_⟩, fun h => ⟨fun n hlen hn => ?_, fun hrange => ?_⟩, fun h => ?_,
    fun h => ?_⟩⟩
  case refine_10 =>
    exact yields_answered (congrArg _ (unknownRequest_of hgood h)) hgood rfl
  all_goals subst h
  · exact yields_answered rfl hgood rfl
  · exact yields_answered rfl hgood rfl
  · exact yields_answered rfl hgood (serveReadCounters_eq f.payload _)
  · exact yields_answered rfl hgood (serveReadPeer_eq f.payload _)
  · exact yields_answered rfl hgood (serveReadCoil_of_coil f.payload _ hlen hc)
  · exact yields_answered rfl hgood (serveReadCoil_of_range f.payload _ hrange)
  · exact yields_answered rfl hgood (serveReadSwitch_of_switch f.payload _ hlen hn)
  · exact yields_answered rfl hgood (serveReadSwitch_of_range f.payload _ hrange)
  · exact yields_answered rfl hgood rfl

/-! ### TEST_PULSE and SET_LAMP -/

section
variable (payload : List Byte) (u : State)

theorem pulseOutcome_eq (a : Answer) : pulseOutcome a = (answerCode a, answerStatus a) := by cases a <;> rfl

theorem serveTestPulse_of_coil {c : CoilNo} (hlen : 3 ≤ payload.length) (hc : byteAt payload 1 = c.val)
    (hcount : byteAt payload 2 ≤ 15) : serveTestPulse (payload.drop 1) u =
      let r := request c .pulse (if byteAt payload 2 = 0 then 1 else byteAt payload 2) .service u
      (r.1, { code := 7, status := (pulseOutcome r.2).2, data := .fixed [byte (pulseOutcome r.2).1], restart := false }) := by
  have hle : byteAt payload (1 + 0) ≤ 15 := hc ▸ Nat.le_of_lt_succ c.isLt
  have hcoil : (argument (payload.drop 1) 0 0 15).bind coilNumber = some c := by
    rw [argument_of_le payload (by omega) hle, Option.bind_some, Nat.add_zero, hc, coilNumber_of_lt c.isLt]
  simp only [serveTestPulse, hcoil, argument_of_le payload (i := 1) hlen hcount, pulseOutcome_eq, presentedCount]

theorem serveTestPulse_of_range (h : ¬3 ≤ payload.length ∨ 16 ≤ byteAt payload 1 ∨ 16 ≤ byteAt payload 2) :
    serveTestPulse (payload.drop 1) u = (u, bare 7 1) := by
  unfold serveTestPulse
  split
  next c n hc hn =>
    rw [argument_eq] at hc hn
    split at hc
    next hcoil =>
      split at hn
      next hcount =>
        have hcoilByte : byteAt payload 1 ≤ 15 := hcoil.2.2
        have hcountByte : byteAt payload 2 ≤ 15 := hcount.2.2
        omega
      next => exact nomatch hn
    next => exact nomatch hc
  next => rfl

/-- R114: SET_LAMP with both its arguments in range. -/
theorem serveSetLamp_of_args (hlen : 3 ≤ payload.length) (hmode : byteAt payload 2 ≤ 3) :
    serveSetLamp (payload.drop 1) u =
      if 24 ≤ byteAt payload 1 ∧ byteAt payload 1 ≠ 255 then (u, bare 8 1)
      else if u.link.state ≠ .offline ∧ u.link.state ≠ .held then
        (commandLamps (lampsNamed (byteAt payload 1)) (byteAt payload 2) 0 0 false u, okWith 8 (.fixed []))
      else (u, bare 8 2) := by
  have hlamp := argument_of_le payload (i := 0) (by omega) (byteAt_le payload 1)
  have hcode := argument_of_le payload (i := 1) hlen hmode
  simp only [serveSetLamp, hlamp, hcode]
  refine if_congr lampsNamed_isEmpty rfl ?_
  exact if_congr lampsRun_iff rfl rfl

theorem serveSetLamp_of_range
    (h : ¬3 ≤ payload.length ∨ (24 ≤ byteAt payload 1 ∧ byteAt payload 1 ≠ 255) ∨ 4 ≤ byteAt payload 2) :
    serveSetLamp (payload.drop 1) u = (u, bare 8 1) := by
  by_cases hargs : 3 ≤ payload.length ∧ byteAt payload 2 ≤ 3
  · rw [serveSetLamp_of_args payload u hargs.1 hargs.2, if_pos (by omega)]
  · have hcode : argument (payload.drop 1) 1 0 3 = none := argument_of_not payload (i := 1)
      (show ¬3 ≤ payload.length ∨ 3 < byteAt payload 2 by omega)
    simp only [serveSetLamp, hcode]
    cases argument (payload.drop 1) 0 0 255 <;> rfl

theorem serveSetLamp_of_held (hlen : 3 ≤ payload.length) (hlamp : byteAt payload 1 < 24 ∨ byteAt payload 1 = 255)
    (hmode : byteAt payload 2 ≤ 3) (hheld : u.link.state = .held) :
    serveSetLamp (payload.drop 1) u = (u, bare 8 2) := by
  rw [serveSetLamp_of_args payload u hlen hmode, if_neg (by omega), if_neg fun ⟨_, hnot⟩ => hnot hheld]

theorem serveSetLamp_of_lamps (hlen : 3 ≤ payload.length) (hlamp : byteAt payload 1 < 24 ∨ byteAt payload 1 = 255)
    (hmode : byteAt payload 2 ≤ 3) (hoff : u.link.state ≠ .offline) (hheld : u.link.state ≠ .held) :
    serveSetLamp (payload.drop 1) u =
      (commandLamps (lampsNamed (byteAt payload 1)) (byteAt payload 2) 0 0 false u, okWith 8 (.fixed [])) := by
  rw [serveSetLamp_of_args payload u hlen hmode, if_neg (by omega), if_pos ⟨hoff, hheld⟩]

end

/-! ### CLEAR_FAULT -/

section
variable (c : CoilNo) (cs : List CoilNo) (u : State)

/-- R65: a channel that CLEAR_FAULT returns from FAULT to IDLE. -/
def clearedChannel (ch : CoilChannel) (sense : Sense) : CoilChannel :=
  { quiet ch .idle (if sense = .none then none else some (startTimer (ms 5))) with faultKind := none }

/-- R65, R160: the faults and the latched kinds of the coils of `cs` cleared. -/
def faultsCleared : State := { u with
  coils := Vector.ofFn fun d => if d ∈ cs ∧ u.coils[d].state = .fault then clearedChannel u.coils[d] u.pins.sense[d]
    else u.coils[d]
  faultLine := { u.faultLine with
    kinds := Vector.ofFn fun d => if d ∈ cs then KindSet.empty else u.faultLine.kinds[d] }
  sched := { u.sched with scanDue := u.sched.scanDue || cs.any fun d => decide (u.coils[d].state = .fault) } }

theorem clearChannel_of_fault (h : u.coils[c].state = .fault) : clearChannel c u =
    scanOwed { u with coils := u.coils.set c (clearedChannel u.coils[c] u.pins.sense[c]) } := by
  have htimed : offTimed u.coils[c] { u.coils[c].stopped .idle with faultKind := none } u.pins.sense[c] =
      clearedChannel u.coils[c] u.pins.sense[c] := by
    rw [offTimed, offTimerAfter, h]
    rfl
  rw [clearChannel, if_pos h, moveChannel_of_return _ _ _ ⟨rfl, .inr (.inr h)⟩, htimed]

theorem ofFn_if_singleton {α : Type} {n : Nat} (v : Vector α n) (k : Fin n) (p : Fin n → Prop) [DecidablePred p]
    (f : Fin n → α) : (Vector.ofFn fun d => if d ∈ [k] ∧ p d then f d else v[d]) = if p k then v.set k (f k) else v := by
  refine Vector.ext fun i hi => ?_
  rw [Vector.getElem_ofFn]
  by_cases hk : (⟨i, hi⟩ : Fin n) = k
  · subst hk
    by_cases hp : p ⟨i, hi⟩
    · rw [if_pos ⟨List.mem_singleton_self _, hp⟩, if_pos hp, Vector.getElem_set_self]
    · rw [if_neg fun h => hp h.2, if_neg hp]
      rfl
  · have hne : k.val ≠ i := fun h => hk (Fin.ext h.symm)
    rw [if_neg fun h => hk (List.mem_singleton.1 h.1)]
    split
    · rw [Vector.getElem_set_ne _ _ hne]
      rfl
    · rfl

theorem clearFaults_singleton : clearFaults [c] u = faultsCleared [c] u := by
  have hkinds : (Vector.ofFn fun d => if d ∈ [c] then KindSet.empty else u.faultLine.kinds[d]) =
      u.faultLine.kinds.set c KindSet.empty := by
    have h := ofFn_if_singleton u.faultLine.kinds c (fun _ => True) fun _ => KindSet.empty
    simpa only [and_true, if_true] using h
  rw [faultsCleared, hkinds, ofFn_if_singleton u.coils c (fun d => u.coils[d].state = .fault)]
  by_cases hfault : u.coils[c].state = .fault
  · have hstep : clearFaults [c] u = clearKinds c (clearChannel c u) := rfl
    rw [hstep, clearChannel_of_fault c u hfault, if_pos hfault, List.any_cons, decide_eq_true hfault, Bool.true_or,
      Bool.or_true]
    rfl
  · have hstep : clearFaults [c] u = clearKinds c (clearChannel c u) := rfl
    rw [hstep, clearChannel, if_neg hfault, if_neg hfault, List.any_cons, decide_eq_false hfault, Bool.false_or,
      List.any_nil, Bool.or_false]
    rfl

theorem faultsCleared_nil : faultsCleared [] u = u := by
  have hcoils : (Vector.ofFn fun d => if d ∈ ([] : List CoilNo) ∧ u.coils[d].state = .fault
      then clearedChannel u.coils[d] u.pins.sense[d] else u.coils[d]) = u.coils :=
    Vector.ext fun i hi => by simp
  have hkinds : (Vector.ofFn fun d => if d ∈ ([] : List CoilNo) then KindSet.empty else u.faultLine.kinds[d]) =
      u.faultLine.kinds := Vector.ext fun i hi => by simp
  rw [faultsCleared, hcoils, hkinds, List.any_nil, Bool.or_false]

variable {c cs}

theorem faultsCleared_other {d : CoilNo} (h : d ≠ c) : (faultsCleared [c] u).coils[d] = u.coils[d] ∧
    (faultsCleared [c] u).faultLine.kinds[d] = u.faultLine.kinds[d] :=
  have hnot : d ∉ [c] := fun hmem => h (List.mem_singleton.1 hmem)
  ⟨(Vector.getElem_ofFn _).trans (if_neg fun hmem => hnot hmem.1), (Vector.getElem_ofFn _).trans (if_neg hnot)⟩

theorem faultsCleared_self : (faultsCleared [c] u).coils[c] =
    (if u.coils[c].state = .fault then clearedChannel u.coils[c] u.pins.sense[c] else u.coils[c]) ∧
    (faultsCleared [c] u).faultLine.kinds[c] = KindSet.empty :=
  have hmem : c ∈ [c] := List.mem_singleton_self c
  ⟨(Vector.getElem_ofFn _).trans (if_congr (and_iff_right hmem) rfl rfl), (Vector.getElem_ofFn _).trans (if_pos hmem)⟩

theorem faultsCleared_cons (hc : c ∉ cs) : faultsCleared cs (faultsCleared [c] u) = faultsCleared (c :: cs) u := by
  have hpins : (faultsCleared [c] u).pins = u.pins := rfl
  have hcoils : (Vector.ofFn fun d => if d ∈ cs ∧ (faultsCleared [c] u).coils[d].state = .fault
      then clearedChannel (faultsCleared [c] u).coils[d] u.pins.sense[d] else (faultsCleared [c] u).coils[d]) =
      Vector.ofFn fun d => if d ∈ c :: cs ∧ u.coils[d].state = .fault
        then clearedChannel u.coils[d] u.pins.sense[d] else u.coils[d] := by
    refine congrArg Vector.ofFn (funext fun d => ?_)
    by_cases hd : d = c
    · subst hd
      rw [if_neg fun h => hc h.1, (faultsCleared_self u).1]
      exact if_congr (and_iff_right List.mem_cons_self).symm rfl rfl
    · rw [(faultsCleared_other u hd).1]
      exact if_congr (and_congr_left' (by simp [hd])) rfl rfl
  have hkinds : (Vector.ofFn fun d => if d ∈ cs then KindSet.empty else (faultsCleared [c] u).faultLine.kinds[d]) =
      Vector.ofFn fun d => if d ∈ c :: cs then KindSet.empty else u.faultLine.kinds[d] := by
    refine congrArg Vector.ofFn (funext fun d => ?_)
    by_cases hd : d = c
    · subst hd
      rw [if_neg hc, (faultsCleared_self u).2, if_pos List.mem_cons_self]
    · rw [(faultsCleared_other u hd).2]
      exact if_congr (by simp [hd]) rfl rfl
  have hany : (cs.any fun d => decide ((faultsCleared [c] u).coils[d].state = .fault)) =
      cs.any fun d => decide (u.coils[d].state = .fault) := by
    rw [Bool.eq_iff_iff, List.any_eq_true, List.any_eq_true]
    refine exists_congr fun d => and_congr_right fun hd => ?_
    rw [(faultsCleared_other u (ne_of_mem_of_not_mem hd hc)).1]
  have hscan : (faultsCleared [c] u).sched =
      { u.sched with scanDue := u.sched.scanDue || decide (u.coils[c].state = .fault) } := by
    simp only [faultsCleared, List.any_cons, List.any_nil, Bool.or_false]
  rw [faultsCleared, hpins, hcoils, hkinds, hany, hscan, Bool.or_assoc]
  rfl

/-- R65, R160: CLEAR_FAULT, coil by coil. -/
theorem clearFaults_eq (hcs : cs.Nodup) : clearFaults cs u = faultsCleared cs u := by
  induction cs generalizing u with
  | nil => exact (faultsCleared_nil u).symm
  | cons c cs ih =>
    obtain ⟨hc, hcs⟩ := List.nodup_cons.1 hcs
    have hstep : clearFaults (c :: cs) u = clearFaults cs (clearFaults [c] u) := rfl
    rw [hstep, ih _ hcs, clearFaults_singleton, faultsCleared_cons u hc]

end

section
variable (payload : List Byte) {a : Nat}

theorem coilsNamed_isEmpty : (coilsNamed a).isEmpty = true ↔ 16 ≤ a ∧ a ≠ 255 := by
  unfold coilsNamed
  split
  next h => exact iff_of_false (by simp) (by omega)
  next h =>
    split
    next h' => exact iff_of_false (by decide) (by omega)
    next h' => exact iff_of_true rfl ⟨by omega, h'⟩

theorem coilsNamed_eq {c : CoilNo} (h : a = c.val ∨ a = 255) :
    coilsNamed a = allCoils.filter fun d => decide (a = d.val ∨ a = 255) := by
  rcases h with rfl | rfl
  · revert c
    decide
  · decide

theorem serveClearFault_of_range (u : State) (h : ¬2 ≤ payload.length ∨ (16 ≤ byteAt payload 1 ∧ byteAt payload 1 ≠ 255)) :
    serveClearFault (payload.drop 1) u = (u, bare 9 1) := by
  unfold serveClearFault
  split
  · rfl
  next n hn =>
    rw [argument_eq] at hn
    split at hn
    next harg =>
      have hlen : 2 ≤ payload.length := harg.1
      rw [← Option.some.inj hn, if_pos (coilsNamed_isEmpty.2 (h.resolve_left (not_not_intro hlen)))]
      rfl
    next => exact nomatch hn

theorem serveClearFault_of_coils {c : CoilNo} (u : State) (hlen : 2 ≤ payload.length)
    (hcoil : byteAt payload 1 = c.val ∨ byteAt payload 1 = 255) : serveClearFault (payload.drop 1) u =
      (faultsCleared (coilsNamed (byteAt payload 1)) u,
        okWith 9 (.fixed [byte (faultedAmong (coilsNamed (byteAt payload 1)) u)])) := by
  have hnodup : (coilsNamed (byteAt payload 1)).Nodup := by
    rw [coilsNamed_eq hcoil]
    exact (List.nodup_finRange 16).filter _
  have harg := argument_of_le payload (i := 0) hlen (byteAt_le payload 1)
  have hnamed : ¬(coilsNamed (byteAt payload 1)).isEmpty = true := fun h => by
    have hlt := c.isLt
    have hrange := coilsNamed_isEmpty.1 h
    omega
  simp only [serveClearFault, harg]
  rw [if_neg hnamed, clearFaults_eq u hnodup]
  rfl

/-- R65, R160: what CLEAR_FAULT leaves, with the coils it names written out. -/
theorem faultsCleared_named (u : State) {c : CoilNo} (h : a = c.val ∨ a = 255) :
    let named (d : CoilNo) : Bool := decide (a = d.val ∨ a = 255)
    let clears (d : CoilNo) : Bool := named d && decide (u.coils[d].state = .fault)
    faultsCleared (coilsNamed a) u = { u with
      coils := Vector.ofFn fun d => if clears d then clearedChannel u.coils[d] u.pins.sense[d] else u.coils[d]
      faultLine := { u.faultLine with
        kinds := Vector.ofFn fun d => if named d then KindSet.empty else u.faultLine.kinds[d] }
      sched := { u.sched with scanDue := u.sched.scanDue || allCoils.any clears } } := by
  have hmem (d : CoilNo) : d ∈ coilsNamed a ↔ decide (a = d.val ∨ a = 255) = true := by
    rw [coilsNamed_eq h, List.mem_filter]
    exact and_iff_right (List.mem_finRange d)
  rw [faultsCleared, coilsNamed_eq h, List.any_filter, ← coilsNamed_eq h]
  simp only [hmem, Bool.and_eq_true, decide_eq_true_eq]

end

/-- Settles O54: each request by its arguments and what it does when taken (`answered_serveRequest`): TEST_PULSE is one
coil request, SET_LAMP commands its lamps (`commandLamps_eq`), CLEAR_FAULT clears coil by coil (`clearFaults_eq`). -/
theorem actingRequestsAnswered : Obligations.ActingRequestsAnswered := by
  intro s rx f c n
  refine ⟨fun hgood => ?_, fun hgood => ?_, fun hgood => ?_⟩
  · refine yields_goodRow (owner := fun f s => serveRequest serveTestPulse (f.payload.drop 1) s) rfl hgood
      ⟨fun hlen hc hcount => ?_, fun hrange => ?_⟩
    · exact answered_serveRequest (serveTestPulse_of_coil f.payload _ hlen hc hcount)
    · exact answered_serveRequest (serveTestPulse_of_range f.payload _ hrange)
  · have hoff : (takeGood s).link.state ≠ .offline := by
      rw [takeGood_linkState]
      exact linkState_ne_offline_of_service (goodFrameFor_destination hgood)
    refine yields_goodRow (owner := fun f s => serveRequest serveSetLamp (f.payload.drop 1) s) rfl hgood
      ⟨fun hrange => ?_, fun hlen hlamp hmode hheld => ?_, fun hlen hlamp hmode hheld => ?_,
        fun hlen hlamp hmode hheld => ?_⟩
    · exact answered_serveRequest (serveSetLamp_of_range f.payload _ hrange)
    · rw [← takeGood_linkState] at hheld
      exact answered_serveRequest (serveSetLamp_of_held f.payload _ hlen hlamp hmode hheld)
    · rw [← takeGood_linkState] at hheld
      have hlt : byteAt f.payload 1 < 24 := hlamp ▸ n.isLt
      refine answered_serveRequest ?_
      rw [serveSetLamp_of_lamps f.payload _ hlen (.inl hlt) hmode hoff hheld, hlamp, lampsNamed_of_lamp,
        commandLamps_singleton _ _ _ (by omega), takeGood_settings]
    · rw [← takeGood_linkState] at hheld
      refine answered_serveRequest ?_
      rw [serveSetLamp_of_lamps f.payload _ hlen (.inr hlamp) hmode hoff hheld, hlamp, lampsNamed_all,
        commandLamps_eq _ _ _ (by omega) allLamps_nodup, takeGood_settings]
  · refine yields_goodRow (owner := fun f s => serveRequest serveClearFault (f.payload.drop 1) s) rfl hgood
      ⟨fun hrange => ?_, fun hlen hcoil => ?_⟩
    · exact answered_serveRequest (serveClearFault_of_range f.payload _ hrange)
    · refine answered_serveRequest ?_
      rw [serveClearFault_of_coils f.payload _ hlen hcoil, faultsCleared_named _ hcoil, faultedAmong,
        coilsNamed_eq hcoil, List.filter_filter, takeGood_coils]
      simp only [Bool.and_comm]
      rfl

end Sys2Proof.Machine
end


section
/-! Entries to DUPLICATE and to HELD, and the load of the configuration: frames with the own number (R142 to R144), a
rejected image and an accepted one (R165, R167). -/

namespace Sys2Proof.Machine

/-! ### The end of the PULSE and LATCH channels -/

section
variable (s : State)

/-- The PULSE and LATCH coils of a set of settings, in order of number. -/
def queuedCoils (t : Settings) : List CoilNo := allCoils.filter fun c => decide (t.coils[c].cls ≠ .flipper)

theorem queuedCoils_nodup (t : Settings) : (queuedCoils t).Nodup := (List.nodup_finRange 16).filter _

theorem mem_queuedCoils {t : Settings} {c : CoilNo} : c ∈ queuedCoils t ↔ t.coils[c].cls ≠ .flipper := by
  rw [queuedCoils, List.mem_filter, decide_eq_true_iff]
  exact and_iff_right (List.mem_finRange c)

/-- R57: the channels of the PULSE and LATCH coils end one after another. -/
theorem endQueuedChannels_eq_foldl :
    endQueuedChannels s = (queuedCoils s.settings).foldl (fun s c => endChannel c s) s := by
  have hrun : ∀ (cs : List CoilNo) (u : State), u.settings = s.settings →
      cs.foldl (fun s c => if s.settings.coils[c].cls = .flipper then s else endChannel c s) u =
        (cs.filter fun c => decide (s.settings.coils[c].cls ≠ .flipper)).foldl (fun s c => endChannel c s) u := by
    intro cs
    induction cs with
    | nil => exact fun u _ => rfl
    | cons c cs ih =>
      intro u hset
      rw [List.foldl_cons, hset]
      by_cases hcls : s.settings.coils[c].cls = .flipper
      · rw [if_pos hcls, List.filter_cons_of_neg (by simpa using hcls)]
        exact ih u hset
      · rw [if_neg hcls, List.filter_cons_of_pos (by simpa using hcls), List.foldl_cons]
        exact ih _ (((endChannel_framed c u).2 .settings (by simp)).trans hset)
  exact hrun allCoils s rfl

theorem sum_map_filter {α : Type} {f : α → Nat} {p : α → Bool} {l : List α} (h : ∀ x ∈ l, p x = false → f x = 0) :
    ((l.filter p).map f).sum = (l.map f).sum := by
  induction l with
  | nil => rfl
  | cons x xs ih =>
    have hrest := ih fun y hy => h y (List.mem_cons_of_mem x hy)
    cases hp : p x
    · rw [List.filter_cons_of_neg (ne_true_of_eq_false hp), hrest, List.map_cons, List.sum_cons,
        h x List.mem_cons_self hp, Nat.zero_add]
    · rw [List.filter_cons_of_pos hp, List.map_cons, List.sum_cons, hrest, List.map_cons, List.sum_cons]

/-- R22, R57: a FLIPPER adds nothing to D_own, so the end of the others leaves what the end of all would. -/
theorem committedBecame_endQueuedChannels : CommittedBecame (committedEnded s) s (endQueuedChannels s) := by
  have hsum : ((queuedCoils s.settings).map fun c => drawOf s.settings.coils[c] s.coils[c]).sum =
      (allCoils.map fun c => drawOf s.settings.coils[c] s.coils[c]).sum :=
    sum_map_filter fun c _ hcls => drawOf_of_flipper (not_not.1 (of_decide_eq_false hcls)) _
  have h := committedBecame_foldl (queuedCoils_nodup s.settings) s
  rwa [hsum, ← endQueuedChannels_eq_foldl] at h

theorem endQueuedChannels_coil (c : CoilNo) : (endQueuedChannels s).coils[c] =
    if s.settings.coils[c].cls = .flipper then s.coils[c] else externallyEnded s.coils[c] s.pins.sense[c] := by
  rw [endQueuedChannels_eq_foldl]
  split
  next hcls =>
    refine List.foldlRecOn (motive := fun u : State => u.coils[c] = s.coils[c]) (queuedCoils s.settings) _ rfl fun u hu d hd => ?_
    rw [endChannel_other c u fun hcd => mem_queuedCoils.1 (hcd ▸ hd) hcls, hu]
  next hcls =>
    obtain ⟨u, hu, hcoil, hlast⟩ := foldl_coil (f := fun s c => endChannel c s) (fun s d => endChannel_framed d s)
      (fun s d h => endChannel_other c s h) (queuedCoils_nodup s.settings) (mem_queuedCoils.2 hcls) s
    have hpins : u.pins = s.pins := hu.2 .pins (by simp)
    rw [hlast, endChannel_coil, hcoil, hpins]

end

/-! ### Entry to DUPLICATE -/

section
variable (s : State)

theorem duplicateReported_framed : Framed [.link, .service, .faultLine] s (duplicateReported s) := by
  have hlink : Framed [.link, .service, .faultLine] s (s.onLink fun l => { l with
      state := .duplicate, listenWindow := none, announcedTimer := none, silence := none }) :=
    (onLink_framed _ s).mono (by simp)
  exact hlink.trans (((raise_framed .duplicate _).mono (by simp)).trans ((onFaultLine_framed _ _).mono (by simp)))

theorem enterDuplicate_framed' : Framed [.link, .service, .faultLine, .sched, .coils, .bus] s (enterDuplicate s) :=
  ((duplicateReported_framed s).mono (by simp)).trans ((enterDuplicate_framed s).mono (by simp))

theorem enterDuplicate_service : (enterDuplicate s).service = { s.service with
    events := s.service.events ||| 0x2000#16, raised := s.service.raised ||| 0x2000#16 } :=
  (enterDuplicate_framed s).2 .service (by simp)

theorem enterDuplicate_faultLine : (enterDuplicate s).faultLine = { s.faultLine with
    duplicate := s.faultLine.duplicate || s.settings.causeMask.duplicate } :=
  (enterDuplicate_framed s).2 .faultLine (by simp)

/-- R16: the queue is flushed before the channels end. -/
theorem flushed_framed : Framed [.link, .service, .faultLine, .sched, .bus] s (flushQueue (duplicateReported s)) :=
  ((duplicateReported_framed s).mono (by simp)).trans ((flushQueue_framed _).mono (by simp))

/-- R57: the channels of an entry to DUPLICATE. -/
theorem enterDuplicate_coil (c : CoilNo) : (enterDuplicate s).coils[c] =
    if s.settings.coils[c].cls = .flipper then s.coils[c] else externallyEnded s.coils[c] s.pins.sense[c] := by
  have hcoils : (enterDuplicate s).coils = (endQueuedChannels (flushQueue (duplicateReported s))).coils :=
    (((onBus_framed _ _).mono (by simp)).trans (noteLink_framed _)).2 .coils (by simp)
  have hset : (flushQueue (duplicateReported s)).settings = s.settings := (flushed_framed s).2 .settings (by simp)
  have hpins : (flushQueue (duplicateReported s)).pins = s.pins := (flushed_framed s).2 .pins (by simp)
  have hbefore : (flushQueue (duplicateReported s)).coils = s.coils := (flushed_framed s).2 .coils (by simp)
  rw [hcoils, endQueuedChannels_coil, hset, hpins, hbefore]

theorem committedEnded_flushed : committedEnded (flushQueue (duplicateReported s)) = committedEnded s := by
  refine committedEnded_congr ((flushed_framed s).2 .settings (by simp)) ((flushed_framed s).2 .coils (by simp)) ?_
  rw [flushQueue_eq]
  rfl

theorem noteLink_sched : (noteLink s).sched = { s.sched with scanDue := true } := by
  rw [noteLink, markDraw_eq]
  rfl

theorem cutTransmit_sched : (cutTransmit s).sched = s.sched := rfl

theorem enterDuplicate_sched : (enterDuplicate s).sched =
    { committed := committedEnded s, queue := [], announce := none, scanDue := true } := by
  have hended := (committedBecame_endQueuedChannels (flushQueue (duplicateReported s))).sched
  rw [enterDuplicate_eq, noteLink_sched, cutTransmit_sched, hended, committedEnded_flushed, flushQueue_eq]

/-- R135: what an entry to DUPLICATE leaves of the transmit side. -/
theorem enterDuplicate_bus : (enterDuplicate s).bus = cutBack s.bus := by
  have hended := (committedBecame_endQueuedChannels (flushQueue (duplicateReported s))).bus
  have hlink : (cutTransmit (endQueuedChannels (flushQueue (duplicateReported s)))).link = (duplicateReported s).link :=
    (((flushQueue_framed _).mono (by simp)).trans (((endQueuedChannels_framed _).mono (by simp)).trans
      ((onBus_framed _ _).mono (m := [.sched, .coils, .bus]) (by simp)))).2 .link (by simp)
  have hmay : mayMark (cutTransmit (endQueuedChannels (flushQueue (duplicateReported s)))) = false := by
    rw [mayMark_of_link hlink]
    rfl
  have hbus : (duplicateReported s).bus = s.bus := rfl
  rw [enterDuplicate_eq, noteLink_of_not_mayMark hmay, cutTransmit_eq]
  show cutBack (endQueuedChannels (flushQueue (duplicateReported s))).bus = cutBack s.bus
  rw [hended, cutBack_markedIf, flushQueue_eq]
  exact (cutBack_markedIf _ _).trans (congrArg cutBack hbus)

end

/-! ### Frames with the own number -/

section
variable (s : State)

theorem endWindow_sched : (endWindow s).sched = { s.sched with scanDue := (endWindow s).sched.scanDue } := by
  have hset (d : Bool) : (setDegraded d (windowCleared s)).sched = { s.sched with scanDue := true } := by
    rw [setDegraded_eq]
    rfl
  have howed {t : State} (h : t.sched = { s.sched with scanDue := true }) :
      t.sched = { s.sched with scanDue := t.sched.scanDue } := by
    rw [h]
  rw [endWindow_eq]
  split
  · rfl
  · split
    · exact howed (hset true)
    · exact howed (hset false)

theorem noteFrame_sched (bad : Bool) :
    (noteFrame bad s).sched = { s.sched with scanDue := (noteFrame bad s).sched.scanDue } := by
  unfold noteFrame
  split
  · dsimp only
    split
    · exact endWindow_sched s
    · rfl
  · rfl

/-- R149: of the scheduler a good frame changes at most whether a scan is owed. -/
theorem takeGood_sched : (takeGood s).sched = { s.sched with scanDue := (takeGood s).sched.scanDue } := by
  have hheard : (heard (count .good (received s))).sched = s.sched := (heard_framed _).2 .sched (by simp)
  exact (noteFrame_sched _ false).trans (by rw [hheard]; rfl)

theorem committedEnded_takeGood : committedEnded (takeGood s) = committedEnded s :=
  committedEnded_congr (takeGood_settings s) (takeGood_coils s) (by rw [takeGood_sched])

/-- R142: in LISTEN, ANNOUNCED and ARMED the link enters DUPLICATE. -/
theorem takeOwnNumber_of_linked (h : s.link.state = .listen ∨ s.link.state = .announced ∨ s.link.state = .armed) :
    takeOwnNumber s = enterDuplicate s := by
  unfold takeOwnNumber
  rcases h with h | h | h <;> rw [h]

theorem takeOwnNumber_of_offline (h : s.link.state = .offline) :
    takeOwnNumber s = raise .duplicate (s.onLink fun l => { l with duplicateSeen := true }) := by
  unfold takeOwnNumber
  rw [h]

theorem takeOwnNumber_of_held_or_duplicate (h : s.link.state = .held ∨ s.link.state = .duplicate) :
    takeOwnNumber s = raise .duplicate s := by
  unfold takeOwnNumber
  rcases h with h | h <;> rw [h]

/-- R142: the event is raised in every link state. -/
theorem takeOwnNumber_service : (takeOwnNumber s).service = { s.service with
    events := s.service.events ||| 0x2000#16, raised := s.service.raised ||| 0x2000#16 } := by
  cases hlink : s.link.state
  case offline =>
    rw [takeOwnNumber_of_offline s hlink]
    rfl
  case held =>
    rw [takeOwnNumber_of_held_or_duplicate s (.inl hlink)]
    rfl
  case duplicate =>
    rw [takeOwnNumber_of_held_or_duplicate s (.inr hlink)]
    rfl
  case listen => rw [takeOwnNumber_of_linked s (.inl hlink), enterDuplicate_service]
  case announced => rw [takeOwnNumber_of_linked s (.inr (.inl hlink)), enterDuplicate_service]
  case armed => rw [takeOwnNumber_of_linked s (.inr (.inr hlink)), enterDuplicate_service]

end

/-- Settles O51, by the link state in which the frame is taken. -/
theorem ownNumberFrames : Obligations.OwnNumberFrames := by
  intro s rx f hgood
  refine yields_goodRow (owner := fun _ s => takeOwnNumber s) rfl hgood ?_
  dsimp only
  rw [takeOwnNumber_service]
  refine ⟨rfl, rfl, rfl, fun hlink => ?_, fun hlink => ?_, fun hlink => ?_⟩
  all_goals rw [← takeGood_linkState s] at hlink
  · rw [takeOwnNumber_of_offline _ hlink]
    exact ⟨rfl, ((onLink_framed _ _).mono (by simp)).trans ((raise_framed _ _).mono (by simp))⟩
  · rw [takeOwnNumber_of_held_or_duplicate _ hlink]
    exact raise_framed _ _
  · rw [takeOwnNumber_of_linked _ hlink]
    have hcoil (c : CoilNo) := enterDuplicate_coil (takeGood s) c
    rw [takeGood_settings, takeGood_coils, takeGood_pins] at hcoil
    refine ⟨(enterDuplicate_framed _).2 .link (by simp), ?_, ?_, fun c hcls => ?_, fun c hcls => ?_,
      enterDuplicate_bus _, (enterDuplicate_framed' _).mono (by simp)⟩
    · rw [enterDuplicate_faultLine, takeGood_faultLine, takeGood_settings]
    · rw [enterDuplicate_sched, committedEnded_takeGood]
    · rw [hcoil, if_neg hcls]
    · rw [hcoil, if_pos hcls]

/-! ### A rejected image -/

section
variable (o : LoadOutcome) (s : State)

/-- R167: the load ends with outcome `o`, and the link is HELD; the rest of the entry follows. -/
def heldEntered : State :=
  ((s.onStartUp fun u => { u with loader := .ended, outcome := some o }).onRetained fun r =>
    { r with leftOffline := true }).onLink fun l => { l with state := .held, duplicateSeen := false }

theorem rejectImage_eq : rejectImage o s = noteLink (flushQueue (endAllChannels (heldEntered o s))) := rfl

theorem heldEntered_framed : Framed [.startUp, .retained, .link] s (heldEntered o s) := by
  have hstart : Framed [.startUp, .retained, .link] s (s.onStartUp fun u => { u with loader := .ended, outcome := some o }) :=
    (onStartUp_framed _ s).mono (by simp)
  exact hstart.trans (((onRetained_framed _ _).mono (by simp)).trans ((onLink_framed _ _).mono (by simp)))

theorem rejectImage_framed_held : Framed [.coils, .sched, .bus] (heldEntered o s) (rejectImage o s) :=
  (endAllChannels_framed _).trans (((flushQueue_framed _).mono (by simp)).trans ((noteLink_framed _).mono (by simp)))

theorem rejectImage_framed : Framed [.startUp, .retained, .link, .coils, .sched, .bus] s (rejectImage o s) :=
  ((heldEntered_framed o s).mono (by simp)).trans ((rejectImage_framed_held o s).mono (by simp))

theorem rejectImage_coil (c : CoilNo) :
    (rejectImage o s).coils[c] = externallyEnded s.coils[c] s.pins.sense[c] := by
  have hcoils : (rejectImage o s).coils = (endAllChannels (heldEntered o s)).coils :=
    ((flushQueue_framed _).trans (noteLink_framed _)).2 .coils (by simp)
  rw [hcoils, endAllChannels_coil]
  rfl

theorem rejectImage_sched : (rejectImage o s).sched =
    { committed := committedEnded s, queue := [], announce := none, scanDue := true } := by
  have hended := (committedBecame_endAllChannels (heldEntered o s)).sched
  have hsame : committedEnded (heldEntered o s) = committedEnded s := rfl
  rw [rejectImage_eq, noteLink_sched, flushQueue_eq, hended, hsame]

theorem noteLink_bus (u : State) : (noteLink u).bus = markedIf true u := by
  rw [noteLink, markDraw_eq]
  rfl

/-- R144: the change of link to HELD marks the draw slot. -/
theorem rejectImage_bus : (rejectImage o s).bus = { s.bus with drawPending := true } := by
  have hended := committedBecame_endAllChannels (heldEntered o s)
  have hlink : (flushQueue (endAllChannels (heldEntered o s))).link = (heldEntered o s).link :=
    ((endAllChannels_framed (heldEntered o s)).trans ((flushQueue_framed _).mono (by simp))).2 .link (by simp)
  have hflush : (flushQueue (endAllChannels (heldEntered o s))).bus = _ :=
    (congrArg State.bus (flushQueue_eq _)).trans
      (markedIf_markedIf _ hended.bus ((endAllChannels_framed (heldEntered o s)).2 .link (by simp)))
  have hmay : mayMark (heldEntered o s) = true := rfl
  rw [rejectImage_eq, noteLink_bus, markedIf_markedIf true hflush hlink, markedIf, hmay, Bool.or_true, Bool.true_and,
    Bool.or_true]
  rfl

/-- R143, R167: what a rejection leaves. -/
theorem rejected_rejectImage : Rejected o s (rejectImage o s) :=
  ⟨(rejectImage_framed_held o s).2 .startUp (by simp), (rejectImage_framed_held o s).2 .retained (by simp),
    (rejectImage_framed_held o s).2 .link (by simp), rejectImage_coil o s, rejectImage_sched o s, rejectImage_bus o s,
    rejectImage_framed o s⟩

end

section
variable {s : State} {n : Nat} {img : List Byte}

theorem readError_of_last (hreading : s.startUp.loader = .reading n) (hn : 3 ≤ n) :
    readError s = rejectImage .readError s := by
  simp only [readError, hreading, if_neg (not_lt.2 hn)]

theorem passEnd_of_rejected (hreading : s.startUp.loader = .reading n) (hlen : img.length = 634)
    (hnot : loadOutcome img s.startUp.strapNumber ≠ .accepted) :
    passEnd img s = rejectImage (loadOutcome img s.startUp.strapNumber) s := by
  simp only [passEnd, hreading, imageLength, hlen, if_true]

theorem passEnd_of_accepted (hreading : s.startUp.loader = .reading n) (hlen : img.length = 634)
    (haccepted : loadOutcome img s.startUp.strapNumber = .accepted) : passEnd img s = acceptImage img s := by
  simp only [passEnd, hreading, imageLength, hlen, if_true, haccepted]

end

/-- Settles O22, by `rejected_rejectImage`. -/
theorem imageRejected : Obligations.ImageRejected := fun s _ img hreading =>
  ⟨fun hn => yields_of_eq (u := readError s) rfl (readError_of_last hreading hn) (rejected_rejectImage _ s),
    fun hlen hnot => yields_of_eq (u := passEnd img s) rfl (passEnd_of_rejected hreading hlen hnot)
      (rejected_rejectImage _ s)⟩

/-! ### Acceptance: the remote edge memory -/

/-- The pair that an entry in use of a remote source names (R95). -/
def remotePairOf (own : Nat) (slot : Option ReflexEntry) : Option (Nat × Nat) :=
  slot.bind fun e => if e.source = own then none else some (e.source, e.switch)

/-- R95: the pairs of a run of slots, added to those of `l`. -/
def remotePairsFrom (own : Nat) (l : List (Nat × Nat)) (slots : List (Option ReflexEntry)) : List (Nat × Nat) :=
  slots.foldl (fun l slot => match slot with
    | none => l
    | some e => if e.source = own ∨ (e.source, e.switch) ∈ l then l else l ++ [(e.source, e.switch)]) l

theorem remotePairs_eq (own : Nat) (t : ReflexTable) : remotePairs own t = remotePairsFrom own [] t.entries.toList := rfl

theorem remotePairsFrom_cons (own : Nat) (l : List (Nat × Nat)) (slot : Option ReflexEntry)
    (slots : List (Option ReflexEntry)) : remotePairsFrom own l (slot :: slots) = remotePairsFrom own
      (match remotePairOf own slot with
        | none => l
        | some p => if p ∈ l then l else l ++ [p]) slots := by
  cases slot with
  | none => rfl
  | some e =>
    have hstep : remotePairsFrom own l (some e :: slots) = remotePairsFrom own
        (if e.source = own ∨ (e.source, e.switch) ∈ l then l else l ++ [(e.source, e.switch)]) slots := rfl
    rw [hstep]
    by_cases hown : e.source = own
    · simp only [remotePairOf, Option.bind_some, hown, true_or, if_true]
    · simp only [remotePairOf, Option.bind_some, hown, false_or, if_false]

/-- R95: the distinct pairs, no more than there are slots, and exactly those that an entry names. -/
theorem remotePairsFrom_spec (own : Nat) (slots : List (Option ReflexEntry)) (l : List (Nat × Nat)) (hl : l.Nodup) :
    (remotePairsFrom own l slots).Nodup ∧ (remotePairsFrom own l slots).length ≤ l.length + slots.length ∧
    ∀ p, p ∈ remotePairsFrom own l slots ↔ p ∈ l ∨ ∃ slot ∈ slots, remotePairOf own slot = some p := by
  induction slots generalizing l with
  | nil => exact ⟨hl, le_rfl, fun p => by simp [remotePairsFrom]⟩
  | cons slot slots ih =>
    rw [remotePairsFrom_cons]
    cases hslot : remotePairOf own slot with
    | none =>
      obtain ⟨hnodup, hlen, hmem⟩ := ih l hl
      refine ⟨hnodup, hlen.trans (by simp), fun p => (hmem p).trans ?_⟩
      simp [hslot]
    | some q =>
      by_cases hq : q ∈ l
      · obtain ⟨hnodup, hlen, hmem⟩ := ih l hl
        simp only [if_pos hq]
        refine ⟨hnodup, hlen.trans (by simp), fun p => (hmem p).trans ?_⟩
        simp only [List.mem_cons, exists_eq_or_imp, hslot, Option.some.injEq]
        exact ⟨fun h => h.imp_right .inr, fun h => h.elim .inl fun h => h.elim (fun heq => .inl (heq ▸ hq)) .inr⟩
      · obtain ⟨hnodup, hlen, hmem⟩ := ih (l ++ [q])
          (hl.append (List.nodup_singleton q) (List.disjoint_singleton.2 hq))
        simp only [if_neg hq]
        refine ⟨hnodup, ?_, fun p => (hmem p).trans ?_⟩
        · rw [List.length_append, List.length_singleton] at hlen
          rw [List.length_cons]
          omega
        · simp only [List.mem_append, List.mem_cons, List.not_mem_nil, false_or, exists_eq_or_imp, hslot, Option.some.injEq,
            or_assoc, eq_comm (a := q)]

theorem mem_remotePairs (own : Nat) (t : ReflexTable) (p : Nat × Nat) : p ∈ remotePairs own t ↔
    ∃ k : Fin 48, ∃ e, t.entries[k] = some e ∧ (e.source ≠ own ∧ p = (e.source, e.switch)) := by
  have hspec := (remotePairsFrom_spec own t.entries.toList [] List.nodup_nil).2.2 p
  rw [remotePairs_eq, hspec]
  simp only [List.not_mem_nil, false_or]
  have hpair (slot : Option ReflexEntry) : remotePairOf own slot = some p ↔
      ∃ e, slot = some e ∧ (e.source ≠ own ∧ p = (e.source, e.switch)) := by
    cases slot with
    | none => simp [remotePairOf]
    | some e => simp [remotePairOf, eq_comm]
  simp only [hpair]
  constructor
  · rintro ⟨slot, hslot, hp⟩
    obtain ⟨i, hi, rfl⟩ := List.mem_iff_getElem.1 hslot
    rw [Vector.length_toList] at hi
    exact ⟨⟨i, hi⟩, hp⟩
  · rintro ⟨k, hp⟩
    exact ⟨_, by simp, hp⟩

end Sys2Proof.Machine
end


section
/-! An accepted image, block by block (R167): the settings taken, the lamps started, the link out of OFFLINE, and the
rail judged. -/

namespace Sys2Proof.Machine

/-! ### The lamps start -/

/-- The mode command that gives a lamp its initial state (R116). -/
def initialCommand (cfg : LampSettings) : ModeCommand :=
  match cfg.initial with
  | .dark => .off
  | .lit => .on
  | .flash => .flash cfg.halfPeriod 0 false

theorem initialLamp_eq (n : LampNo) (s : State) : initialLamp n s = lampCommand n (initialCommand s.settings.lamps[n]) s := by
  unfold initialLamp initialCommand
  cases s.settings.lamps[n].initial <;> rfl

theorem commanded_initialCommand (cfg : LampSettings) (ch : LampChannel) :
    commanded (initialCommand cfg) ch = initialGiven cfg := by
  unfold initialCommand initialGiven
  cases cfg.initial <;> rfl

/-- R116: every lamp is given its initial state, and the lamp phase starts. -/
theorem startLamps_eq (s : State) : startLamps s = { s with
    lamps := { lampsGiven s.settings.lamps allLamps (fun m => initialGiven s.settings.lamps[m]) s.lamps with
      phase := some (startTimer (ms 5)) } } := by
  have hstep (u : State) (n : LampNo) : initialLamp n u = { u with
      lamps := lampsGiven u.settings.lamps [n] (fun m => initialGiven u.settings.lamps[m]) u.lamps } := by
    rw [initialLamp_eq, lampCommand_eq]
    refine congrArg (fun v => { u with lamps := v }) (lampsGiven_congr fun m hm => ?_)
    rw [List.mem_singleton.1 hm, commanded_initialCommand]
  have hfold := foldl_lampsGiven (f := fun s n => initialLamp n s) (new := fun cfg m _ => initialGiven cfg[m]) hstep
    allLamps_nodup (s.onLamps fun u => { u with phase := some (startTimer lampPhasePeriod) })
  rw [startLamps, hfold]
  rfl

/-! ### The rail is judged as the link leaves OFFLINE -/

/-- R151, R152: what the monitor makes of the reading as the rail, DOWN until now, is judged. -/
def railAtAcceptance (t : Settings) (reading : Nat) (r : RailMonitor) : RailMonitor :=
  if t.vOn ≤ reading then { state := .settling, settle := some (startTimer (ms 200)), sagQualify := none, sagClear := none }
  else r

theorem judgeRail_of_rail_down {s : State} (hdown : s.rail.state = .down) (howed : s.sched.scanDue = true) :
    judgeRail s = { s with rail := railAtAcceptance s.settings s.pins.rail s.rail } := by
  have hsched : { s.sched with scanDue := true } = s.sched := by rw [← howed]
  have hsettle : changeRail .settling s = { s with
      rail := { state := .settling, settle := some (startTimer (ms 200)), sagQualify := none, sagClear := none }
      sched := { s.sched with scanDue := true } } := by
    simp [changeRail, hdown, railReport, isUp, isSag, railEntry, promptScan, State.onRail, State.onSched, settleTime]
  rw [judgeRail_of_down hdown, railAtAcceptance, hsettle, hsched]
  split <;> rfl

/-! ### The link leaves OFFLINE -/

section
variable (s : State)

theorem enterListen_eq : enterListen s = { s with
    link := { s.link with state := .listen, listenWindow := some (startTimer (cs (3 * s.settings.beat))) }
    sched := { s.sched with scanDue := true } } := by
  rw [enterListen, noteLink_of_not_mayMark rfl]
  rfl

theorem enterListen_coils : (enterListen s).coils = s.coils := by rw [enterListen_eq]

theorem leaveOffline_of_duplicate (h : s.link.duplicateSeen = true) :
    leaveOffline s = enterDuplicate (s.onLink fun l => { l with duplicateSeen := false }) := by
  rw [leaveOffline_eq, if_pos h]

theorem leaveOffline_of_alone (h : s.link.duplicateSeen = false) :
    leaveOffline s = enterListen (s.onLink fun l => { l with duplicateSeen := false }) := by
  rw [leaveOffline_eq, if_neg (ne_true_of_eq_false h)]

theorem leaveOffline_framed : Framed [.link, .service, .faultLine, .sched, .coils, .bus] s (leaveOffline s) := by
  have hmark : Framed [.link, .service, .faultLine, .sched, .coils, .bus] s
      (s.onLink fun l => { l with duplicateSeen := false }) := (onLink_framed _ s).mono (by simp)
  rw [leaveOffline_eq]
  split
  · exact hmark.trans (enterDuplicate_framed' _)
  · exact hmark.trans (((onLink_framed _ _).mono (by simp)).trans ((noteLink_framed _).mono (by simp)))

theorem leaveOffline_link : (leaveOffline s).link = { s.link with
    state := if s.link.duplicateSeen then .duplicate else .listen
    listenWindow := if s.link.duplicateSeen then none else some (startTimer (cs (3 * s.settings.beat)))
    announcedTimer := if s.link.duplicateSeen then none else s.link.announcedTimer
    silence := if s.link.duplicateSeen then none else s.link.silence
    duplicateSeen := false } := by
  cases hdup : s.link.duplicateSeen
  · rw [leaveOffline_of_alone s hdup, enterListen_link]
    rfl
  · rw [leaveOffline_of_duplicate s hdup, enterDuplicate_link]
    rfl

theorem leaveOffline_scanDue : (leaveOffline s).sched.scanDue = true := by
  cases hdup : s.link.duplicateSeen
  · rw [leaveOffline_of_alone s hdup, enterListen_eq]
  · rw [leaveOffline_of_duplicate s hdup, enterDuplicate_sched]

end

/-! ### An accepted image -/

section
variable (img : List Byte) (s : State)

/-- R167: the settings in force and the lamps started, before the link leaves OFFLINE. -/
def settingsTaken : State := startLamps (takeSettings img s)

theorem settingsTaken_eq : settingsTaken img s = { takeSettings img s with
    lamps := { lampsGiven (settingsOf img).lamps allLamps (fun m => initialGiven (settingsOf img).lamps[m]) s.lamps with
      phase := some (startTimer (ms 5)) } } := by
  rw [settingsTaken, startLamps_eq]
  rfl

theorem settingsTaken_duplicateSeen : (settingsTaken img s).link.duplicateSeen = s.link.duplicateSeen := by
  rw [settingsTaken_eq]
  rfl

theorem acceptImage_eq (hdown : s.rail.state = .down) : acceptImage img s = { leaveOffline (settingsTaken img s) with
    rail := railAtAcceptance (settingsOf img) s.pins.rail s.rail } := by
  have hframe := (leaveOffline_framed (settingsTaken img s)).2
  have hset : (leaveOffline (settingsTaken img s)).settings = settingsOf img :=
    (hframe .settings (by simp)).trans (by rw [settingsTaken_eq]; rfl)
  have hpins : (leaveOffline (settingsTaken img s)).pins = s.pins :=
    (hframe .pins (by simp)).trans (by rw [settingsTaken_eq]; rfl)
  have hrail : (leaveOffline (settingsTaken img s)).rail = s.rail :=
    (hframe .rail (by simp)).trans (by rw [settingsTaken_eq]; rfl)
  have hjudged := judgeRail_of_rail_down (s := leaveOffline (settingsTaken img s)) (by rw [hrail, hdown])
    (leaveOffline_scanDue _)
  have hsame : railAtAcceptance (leaveOffline (settingsTaken img s)).settings
      (leaveOffline (settingsTaken img s)).pins.rail (leaveOffline (settingsTaken img s)).rail =
      railAtAcceptance (settingsOf img) s.pins.rail s.rail := by rw [hset, hpins, hrail]
  rw [acceptImage, ← settingsTaken, hjudged, hsame]

/-- R60: a channel as it takes its settings, with the off-current timer that a sense of current starts. -/
def channelTaken (sense : Sense) (ch : CoilChannel) : CoilChannel :=
  { ch with offTimer := if sense = .none then none else some (startTimer (ms 5)) }

theorem settingsTaken_coil (c : CoilNo) : (settingsTaken img s).coils[c] = channelTaken s.pins.sense[c] s.coils[c] := by
  have h := accept_coils img s (fun l => l) c
  rw [State.onLink_coils, stuckTime] at h
  unfold settingsTaken channelTaken
  exact h

/-- R57: a channel that ends, or goes on, at the acceptance. -/
theorem channelAccepted_eq (cls : CoilClass) (dup : Bool) (sense : Sense) (ch : CoilChannel) :
    channelAccepted cls dup sense ch = if dup = true ∧ cls ≠ .flipper
      then externallyEnded (channelTaken sense ch) sense else channelTaken sense ch := by
  unfold channelAccepted externallyEnded running channelTaken
  dsimp only
  by_cases hdup : dup = true ∧ cls ≠ .flipper
  · rw [if_pos hdup]
    cases ch.state <;> simp [hdup, commandedOn, turnedOff, quiet]
  · rw [if_neg hdup, if_neg fun h => hdup ⟨h.1, h.2.1⟩]

theorem acceptImage_coil (hdown : s.rail.state = .down) (c : CoilNo) : (acceptImage img s).coils[c] =
    channelAccepted (settingsOf img).coils[c].cls s.link.duplicateSeen s.pins.sense[c] s.coils[c] := by
  have hcoils : (acceptImage img s).coils = (leaveOffline (settingsTaken img s)).coils := by
    rw [acceptImage_eq img s hdown]
  have hset : (settingsTaken img s).settings = settingsOf img := by rw [settingsTaken_eq]; rfl
  have hpins : (settingsTaken img s).pins = s.pins := by rw [settingsTaken_eq]; rfl
  rw [hcoils, channelAccepted_eq]
  cases hdup : s.link.duplicateSeen
  · rw [leaveOffline_of_alone _ ((settingsTaken_duplicateSeen img s).trans hdup), enterListen_coils,
      State.onLink_coils, settingsTaken_coil, if_neg fun h => nomatch h.1]
  · rw [leaveOffline_of_duplicate _ ((settingsTaken_duplicateSeen img s).trans hdup), enterDuplicate_coil,
      State.onLink_coils, settingsTaken_coil, State.onLink_settings, State.onLink_pins, hset, hpins]
    by_cases hcls : (settingsOf img).coils[c].cls = .flipper
    · rw [if_pos hcls, if_neg fun h => h.2 hcls]
    · rw [if_neg hcls, if_pos ⟨rfl, hcls⟩]

theorem acceptImage_framed_taken (hdown : s.rail.state = .down) :
    Framed [.link, .service, .faultLine, .sched, .coils, .bus, .rail] (settingsTaken img s) (acceptImage img s) := by
  rw [acceptImage_eq img s hdown]
  exact ((leaveOffline_framed _).mono (by simp)).trans
    ((onRail_framed (fun _ => railAtAcceptance (settingsOf img) s.pins.rail s.rail) _).mono (by simp))

theorem takeSettings_framed : Framed [.startUp, .settings, .link, .reflex, .retained, .thermal, .switches, .coils] s
    (takeSettings img s) := by
  refine ⟨rfl, fun b hb => ?_⟩
  cases b
  case startUp | settings | link | reflex | retained | thermal | switches | coils => simp at hb
  all_goals rfl

theorem acceptImage_framed (hdown : s.rail.state = .down) : Framed [.startUp, .settings, .link, .reflex, .retained,
    .thermal, .switches, .lamps, .rail, .sched, .coils, .bus, .faultLine, .service] s (acceptImage img s) :=
  ((takeSettings_framed img s).mono (by simp)).trans (((startLamps_framed _).mono (by simp)).trans
    ((acceptImage_framed_taken img s hdown).mono (by simp)))

theorem committedEnded_settingsTaken (f : LinkUnit → LinkUnit) : committedEnded ((settingsTaken img s).onLink f) =
    s.sched.committed - (allCoils.map fun c => drawOf (settingsOf img).coils[c] s.coils[c]).sum := by
  have hset : ((settingsTaken img s).onLink f).settings = settingsOf img := by
    rw [State.onLink_settings, settingsTaken_eq]
    rfl
  have hsched : ((settingsTaken img s).onLink f).sched = s.sched := by
    rw [State.onLink_sched, settingsTaken_eq]
    rfl
  have hdraw (c : CoilNo) : drawOf (settingsOf img).coils[c] ((settingsTaken img s).onLink f).coils[c] =
      drawOf (settingsOf img).coils[c] s.coils[c] := by
    rw [State.onLink_coils, settingsTaken_coil]
    exact drawOf_congr rfl
  rw [committedEnded, hset, hsched]
  simp only [hdraw]

/-- R138: an acceptance with no duplicate seen leaves the link in LISTEN, and owes a scan. -/
theorem acceptImage_of_alone (hdown : s.rail.state = .down) (hdup : s.link.duplicateSeen = false) :
    (acceptImage img s).sched = { s.sched with scanDue := true } ∧ (acceptImage img s).bus = s.bus ∧
    (acceptImage img s).faultLine = s.faultLine ∧ (acceptImage img s).service = s.service := by
  have hlisten := leaveOffline_of_alone _ ((settingsTaken_duplicateSeen img s).trans hdup)
  rw [acceptImage_eq img s hdown, hlisten, enterListen_eq, settingsTaken_eq]
  exact ⟨rfl, rfl, rfl, rfl⟩

/-- R138, R142: an acceptance where a duplicate has been seen enters DUPLICATE. -/
theorem acceptImage_of_duplicate (hdown : s.rail.state = .down) (hdup : s.link.duplicateSeen = true) :
    (acceptImage img s).sched = { committed := s.sched.committed -
        (allCoils.map fun c => drawOf (settingsOf img).coils[c] s.coils[c]).sum
                                  queue := [], announce := none, scanDue := true } ∧
    (acceptImage img s).bus = cutBack s.bus ∧
    (acceptImage img s).faultLine = { s.faultLine with
      duplicate := s.faultLine.duplicate || (settingsOf img).causeMask.duplicate } ∧
    (acceptImage img s).service = { s.service with events := s.service.events ||| 0x2000#16
                                                   raised := s.service.raised ||| 0x2000#16 } := by
  have hentered := leaveOffline_of_duplicate _ ((settingsTaken_duplicateSeen img s).trans hdup)
  have hmarked : ((settingsTaken img s).onLink fun l => { l with duplicateSeen := false }).bus = s.bus ∧
      ((settingsTaken img s).onLink fun l => { l with duplicateSeen := false }).faultLine = s.faultLine ∧
      ((settingsTaken img s).onLink fun l => { l with duplicateSeen := false }).settings = settingsOf img ∧
      ((settingsTaken img s).onLink fun l => { l with duplicateSeen := false }).service = s.service := by
    rw [settingsTaken_eq]
    exact ⟨rfl, rfl, rfl, rfl⟩
  obtain ⟨hbus, hfault, hset, hservice⟩ := hmarked
  rw [acceptImage_eq img s hdown, hentered, enterDuplicate_sched, committedEnded_settingsTaken, enterDuplicate_bus,
    hbus, enterDuplicate_faultLine, hfault, hset, enterDuplicate_service, hservice]
  exact ⟨rfl, rfl, rfl, rfl⟩

theorem acceptImage_link (hdown : s.rail.state = .down) : (acceptImage img s).link = { s.link with
    state := if s.link.duplicateSeen then .duplicate else .listen
    listenWindow := if s.link.duplicateSeen then none else some (startTimer (cs (3 * (settingsOf img).beat)))
    announcedTimer := if s.link.duplicateSeen then none else s.link.announcedTimer
    silence := if s.link.duplicateSeen then none else s.link.silence
    duplicateSeen := false, degraded := false, windowFrames := 0, windowBad := 0
    memory := memoryOf (remotePairs (ownNumber s) (reflexTableOf img (settingsOf img).coils)) } := by
  have hlink := leaveOffline_link (settingsTaken img s)
  have htaken : (settingsTaken img s).link = { s.link with
      memory := memoryOf (remotePairs (ownNumber s) (reflexTableOf img (settingsOf img).coils)), windowFrames := 0
      windowBad := 0, degraded := false } := by
    rw [settingsTaken_eq]
    rfl
  have hset : (settingsTaken img s).settings = settingsOf img := by
    rw [settingsTaken_eq]
    rfl
  rw [acceptImage_eq img s hdown, hlink, htaken, hset]

theorem remotePairs_of_memory (own : Nat) (t : ReflexTable) :
    ((memoryOf (remotePairs own t)).map fun r => (r.station, r.switch)) = remotePairs own t := by
  rw [memoryOf, List.map_map]
  exact List.map_id _

end

/-- Settles O23, block by block: the acceptance is the settings taken, the link out of OFFLINE, and the rail as it is then
judged (`acceptImage_eq`). -/
theorem imageAccepted : Obligations.ImageAccepted := by
  intro s n img hreading hlen haccepted hdown
  refine yields_of_eq (u := passEnd img s) rfl (passEnd_of_accepted hreading hlen haccepted) ?_
  have htaken := (acceptImage_framed_taken img s hdown).2
  rw [settingsTaken_eq] at htaken
  have hstart : (acceptImage img s).startUp = _ := htaken .startUp (by simp)
  have hset : (acceptImage img s).settings = settingsOf img := htaken .settings (by simp)
  have hreflex : (acceptImage img s).reflex = reflexTableOf img (settingsOf img).coils := htaken .reflex (by simp)
  have hretained : (acceptImage img s).retained =
      { s.retained with heat := heatAtAcceptance (settingsOf img) s.retained, leftOffline := true } :=
    htaken .retained (by simp)
  have hthermal : (acceptImage img s).thermal =
      thermalAtAcceptance (settingsOf img) (heatAtAcceptance (settingsOf img) s.retained) := htaken .thermal (by simp)
  have hswitches : (acceptImage img s).switches = switchesAtAcceptance (settingsOf img) s.pins s.switches :=
    htaken .switches (by simp)
  have hlamps : (acceptImage img s).lamps = _ := htaken .lamps (by simp)
  have hrail : (acceptImage img s).rail = railAtAcceptance (settingsOf img) s.pins.rail s.rail := by
    rw [acceptImage_eq img s hdown]
  have hlink := acceptImage_link img s hdown
  obtain ⟨hnodup, hcount, -⟩ := remotePairsFrom_spec (ownNumber s)
    (reflexTableOf img (settingsOf img).coils).entries.toList [] List.nodup_nil
  dsimp only
  rw [hset, hreflex, hlink, hretained, hthermal, hswitches]
  dsimp only
  rw [remotePairs_of_memory]
  refine ⟨hstart, rfl, rfl, rfl, ⟨hnodup, by simpa [remotePairs_eq] using hcount, ?_, mem_remotePairs _ _⟩, fun c => ?_, rfl, fun c => ?_,
    rfl, fun k => Vector.getElem_ofFn _, rfl, hlamps, hrail, acceptImage_coil img s hdown,
    acceptImage_of_alone img s hdown, acceptImage_of_duplicate img s hdown, acceptImage_framed img s hdown⟩
  · intro r hr
    obtain ⟨p, -, rfl⟩ := List.mem_map.1 hr
    rfl
  · unfold heatAtAcceptance
    split
    · exact Vector.getElem_ofFn _
    · rfl
  · exact Vector.getElem_ofFn _

end Sys2Proof.Machine
end


section
/-! Faults of a coil channel (R60 to R64): what a report of a fault leaves, and the three kinds of fault. -/

namespace Sys2Proof.Machine

/-! ### A fault reported -/

theorem Scheduler.withCommitted_self (q : Scheduler) : q.withCommitted q.committed = q := by
  rw [Scheduler.withCommitted, decide_eq_false (not_not_intro rfl), Bool.or_false]

/-- R156: a kind joins the set where the mask enables it. -/
theorem KindSet.add_eq (set : KindSet) (mask : CauseMask) (k : FaultKind) : set.add mask k =
    { short := set.short || (decide (k = .short) && mask.short)
      stuck := set.stuck || (decide (k = .stuck) && mask.stuck)
      opened := set.opened || (decide (k = .opened) && mask.opened) } := by
  cases k <;> simp [KindSet.add]

section
variable {c : CoilNo} {k : FaultKind} {n : Nat} {s t u : State}

theorem latchKind_of_configured (h : ¬Unconfigured s) : latchKind c k s = s.onFaultLine fun f =>
    { f with kinds := f.kinds.set c (f.kinds[c].add s.settings.causeMask k) } := if_neg h

/-- What a report of a fault reads of the state before: channels have changed, and D_own has become `n`. -/
def drawBecame (v : Vector CoilChannel 16) (n : Nat) (s : State) : State :=
  { s with coils := v, sched := s.sched.withCommitted n, bus := markedIf (decide (n ≠ s.sched.committed)) s }

/-- R64, R15, R156: a report of a fault, whole, where a configuration is in force. -/
theorem reportFault_eq (h : ¬Unconfigured s) : reportFault c k s = { s with
    sched := if (entryOf s c).isSome then withoutEntry c s.sched else s.sched
    bus := markedIf ((entryOf s c).isSome && announced c s.sched) s
    service := { events := s.service.events ||| 8#16, raised := s.service.raised ||| 8#16
                 counters := if (entryOf s c).isSome then counted 14 s.service.counters else s.service.counters }
    faultLine := { s.faultLine with
      kinds := s.faultLine.kinds.set c (s.faultLine.kinds[c].add s.settings.causeMask k) } } := by
  have hconf : ¬Unconfigured (raise .driverFault s) := h
  have hentry : entryOf (latchKind c k (raise .driverFault s)) c = entryOf s c := by
    rw [latchKind_of_configured hconf]
    rfl
  rw [reportFault, removeCounted, hentry, latchKind_of_configured hconf]
  cases (entryOf s c).isSome
  · rw [if_neg Bool.false_ne_true, if_neg Bool.false_ne_true, if_neg Bool.false_ne_true, Bool.false_and, markedIf_false]
    rfl
  · rw [if_pos rfl, if_pos rfl, if_pos rfl, Bool.true_and, removeEntry_eq]
    rfl

theorem faultReported_reportFault (h : ¬Unconfigured s) (v : Vector CoilChannel 16) :
    FaultReported c k n s (reportFault c k (drawBecame v n s)) := by
  have hconf : ¬Unconfigured (drawBecame v n s) := h
  have hmarked : markedIf ((entryOf s c).isSome && announced c s.sched) (drawBecame v n s) =
      markedIf (decide (n ≠ s.sched.committed) || ((entryOf s c).isSome && announced c s.sched)) s :=
    markedIf_markedIf _ rfl rfl
  rw [reportFault_eq hconf]
  refine ⟨rfl, hmarked, rfl, fun d hd => ?_, ?_, rfl, rfl, fun b hb => ?_⟩
  · exact Vector.getElem_set_ne c.isLt d.isLt fun hval => hd (Fin.ext hval.symm)
  · exact (Vector.getElem_set_self _).trans (KindSet.add_eq _ _ _)
  · cases b
    case sched | bus | service | faultLine | coils => simp at hb
    all_goals rfl

theorem FaultReported.of_coils (h : FaultReported c k n (s.onCoils f) t) : FaultReported c k n s t := by
  obtain ⟨hsched, hbus, hservice, hother, hkinds, hline, hframe⟩ := h
  exact ⟨hsched, hbus, hservice, hother, hkinds, hline, ((onCoils_framed f s).mono (by simp)).trans hframe⟩

theorem FaultReported.onCoils (h : FaultReported c k n s t) (f : Vector CoilChannel 16 → Vector CoilChannel 16) :
    FaultReported c k n s (t.onCoils f) := by
  obtain ⟨hsched, hbus, hservice, hother, hkinds, hline, hframe⟩ := h
  exact ⟨hsched, hbus, hservice, hother, hkinds, hline, hframe.trans ((onCoils_framed f t).mono (by simp))⟩

/-- R61 to R64: an entry into FAULT. -/
theorem enterFault_spec (h : ¬Unconfigured s) :
    (enterFault c k s).coils = s.coils.set c (faulted s.coils[c] k
      (offTimerAfter s.coils[c] { s.coils[c].stopped .fault with faultKind := some k } s.pins.sense[c])) ∧
    FaultReported c k (committedWithout c s) s (enterFault c k s) := by
  have hmoved : moveChannel c { s.coils[c].stopped .fault with faultKind := some k } s = drawBecame
      (s.coils.set c (faulted s.coils[c] k
        (offTimerAfter s.coils[c] { s.coils[c].stopped .fault with faultKind := some k } s.pins.sense[c])))
      (committedWithout c s) s := by
    rw [moveChannel_eq _ _ _ (not_returnsToIdle (CoilState.noConfusion : CoilState.fault ≠ .idle)), committedAfter_of_off rfl]
    rfl
  have hentered : enterFault c k s = reportFault c k _ := congrArg (reportFault c k) hmoved
  rw [hentered]
  exact ⟨(reportFault_framed c k _).2 .coils (by simp), faultReported_reportFault h _⟩

end

/-! ### FAULT OPEN and FAULT SHORT -/

section
variable {c : CoilNo} {s : State}

theorem offTimerAfter_of_on {old new : CoilChannel} {sense : Sense} (hnew : commandedOn new.state = false)
    (hold : commandedOn old.state = true) :
    offTimerAfter old new sense = if sense = .none then none else some (startTimer (ms 5)) := by
  rw [offTimerAfter, if_neg (ne_true_of_eq_false hnew), hold]
  rfl

theorem offTimerAfter_of_off {old new : CoilChannel} {sense : Sense} (hnew : commandedOn new.state = false)
    (hold : commandedOn old.state = false) (hfault : old.state ≠ .fault) :
    offTimerAfter old new sense = old.offTimer := by
  rw [offTimerAfter, if_neg (ne_true_of_eq_false hnew), hold, decide_eq_false hfault]
  rfl

theorem openCheckDue_of {w : Countup} (hkick : s.coils[c].state = .kick) (htimer : s.coils[c].kickTimer = some w)
    (hreached : ms 2 ≤ w.elapsed) (hunseen : s.coils[c].currentSeen = false) (hjudged : senseJudged s.link.state = true) :
    openCheckDue c s = true := by
  unfold openCheckDue
  rw [hkick, htimer]
  show (decide (ms 2 ≤ w.elapsed) && !s.coils[c].currentSeen && senseJudged s.link.state) = true
  rw [decide_eq_true hreached, hunseen, hjudged]
  rfl

theorem senseRecorded_coil (r : Sense) : (senseRecorded c r s).coils[c] = s.coils[c].sensed r :=
  Vector.getElem_set_self _

theorem senseRecorded_other (r : Sense) {d : CoilNo} (h : d ≠ c) : (senseRecorded c r s).coils[d] = s.coils[d] :=
  Vector.getElem_set_ne c.isLt d.isLt fun hval => h (Fin.ext hval.symm)

theorem senseRecorded_sense (r : Sense) : (senseRecorded c r s).pins.sense[c] = r := Vector.getElem_set_self _

theorem CoilChannel.sensed_eq (ch : CoilChannel) (r : Sense) : ch.sensed r =
    if commandedOn ch.state then
      { ch with currentSeen := ch.currentSeen || (decide (ch.state = .kick) && decide (r ≠ .none)) }
    else if r = .none then { ch with offTimer := none }
    else if ch.offTimer = none then { ch with offTimer := some (startTimer (ms 5)) } else ch := by
  unfold CoilChannel.sensed
  cases hoff : ch.offTimer <;> simp [stuckTime]

theorem offTimerAfter_sensed_over {ch new : CoilChannel} (hnew : commandedOn new.state = false)
    (hfault : ch.state ≠ .fault) : offTimerAfter (ch.sensed .over) new .over =
      if commandedOn ch.state = true ∨ ch.offTimer = none then some (startTimer (ms 5)) else ch.offTimer := by
  have hstate : (ch.sensed .over).state = ch.state := CoilChannel.sensed_state _ _
  cases hon : commandedOn ch.state
  · rw [offTimerAfter_of_off hnew (by rw [hstate, hon]) (by rwa [hstate]), CoilChannel.sensed_eq, hon]
    by_cases hoff : ch.offTimer = none <;> simp [hoff]
  · rw [offTimerAfter_of_on hnew (by rw [hstate, hon])]
    simp

end

/-- Settles O40: an entry into FAULT (`enterFault_spec`), from the kick itself or once the OVER reading is recorded. -/
theorem openAndShortFaults : Obligations.OpenAndShortFaults := by
  intro s c w
  refine ⟨fun hkick htimer hreached hunseen hjudged => ?_, fun hjudged hnot => ?_⟩
  · refine yields_of_due (due := openCheckDue c s) rfl (openCheckDue_of hkick htimer hreached hunseen hjudged) ?_
    have hon : commandedOn s.coils[c].state = true := by rw [hkick]; rfl
    have hspec := enterFault_spec (c := c) (k := .opened) (configured_of_senseJudged hjudged)
    rwa [offTimerAfter_of_on rfl hon] at hspec
  · have hstate : (s.coils[c].sensed .over).state = s.coils[c].state := CoilChannel.sensed_state _ _
    have hrow : senseChanges c .over s = enterFault c .short (senseRecorded c .over s) := by
      rw [senseChanges_eq, if_pos hjudged, senseRecorded_coil, hstate, if_pos ⟨rfl, hnot⟩]
    refine yields_of_eq (u := senseChanges c .over s) rfl hrow ?_
    have hconf : ¬Unconfigured (senseRecorded c .over s) := configured_of_senseJudged hjudged
    obtain ⟨hcoils, hreported⟩ := enterFault_spec (c := c) (k := .short) hconf
    have hcoil : (enterFault c .short (senseRecorded c .over s)).coils[c] = 
        faulted (s.coils[c].sensed .over) .short (offTimerAfter (s.coils[c].sensed .over)
          { (s.coils[c].sensed .over).stopped .fault with faultKind := some .short } .over) := by
      rw [hcoils, senseRecorded_coil, senseRecorded_sense]
      exact Vector.getElem_set_self _
    have hwithout : committedWithout c (senseRecorded c .over s) = committedWithout c s := by
      rw [committedWithout, senseRecorded_coil]
      exact congrArg (s.sched.committed - ·) (drawOf_congr hstate)
    rw [hwithout] at hreported
    rw [hcoil]
    refine ⟨rfl, rfl, rfl, rfl, rfl, rfl, ?_, fun d hd => ?_, FaultReported.of_coils (f := _) hreported⟩
    · exact offTimerAfter_sensed_over
        (new := { (s.coils[c].sensed .over).stopped .fault with faultKind := some .short }) rfl hnot
    · rw [hcoils]
      exact (Vector.getElem_set_ne c.isLt d.isLt fun hval => hd (Fin.ext hval.symm)).trans (senseRecorded_other _ hd)

/-! ### Sense readings and FAULT STUCK -/

section
variable {c : CoilNo} {s : State}

theorem offCurrent_of_running (h : s.coils[c].state ≠ .fault) : offCurrent c s = restartOff c (enterFault c .stuck s) := by
  rw [offCurrent, if_neg h]

theorem offCurrent_of_stuck (h : s.coils[c].state = .fault) (hkind : s.coils[c].faultKind = some .stuck) :
    offCurrent c s = restartOff c s := by
  rw [offCurrent, if_pos h, if_pos hkind]

/-- R63: in FAULT of another kind, the kind changes and is reported. -/
theorem offCurrent_of_fault (h : s.coils[c].state = .fault) (hkind : s.coils[c].faultKind ≠ some .stuck) :
    offCurrent c s = reportFault c .stuck (drawBecame
      (s.coils.set c { s.coils[c] with faultKind := some .stuck, offTimer := some (startTimer (ms 5)) })
      s.sched.committed s) := by
  have hsame (v : Vector CoilChannel 16) : drawBecame v s.sched.committed s = { s with coils := v } := by
    rw [drawBecame, Scheduler.withCommitted_self, decide_eq_false (not_not_intro rfl), markedIf_false]
  rw [offCurrent, if_pos h, if_neg hkind, hsame]
  rfl

end

/-- Settles O41: the reading by `CoilChannel.sensed_eq`; the off-current timer by the channel's state and kind. -/
theorem senseAndStuckFault : Obligations.SenseAndStuckFault := by
  intro s c r
  refine ⟨fun hnot => ?_, fun hjudged hshort => ?_, fun hreached hjudged => ?_⟩
  · refine yields_of_eq (u := senseChanges c r s) rfl ?_ rfl
    rw [senseChanges_eq, if_neg (ne_true_of_eq_false hnot)]
    rfl
  · have hstate : (s.coils[c].sensed r).state = s.coils[c].state := CoilChannel.sensed_state _ _
    refine yields_of_eq (u := senseChanges c r s) (t := senseRecorded c r s) rfl ?_ ?_
    · rw [senseChanges_eq, if_pos hjudged, senseRecorded_coil, hstate,
        if_neg fun h => hshort.elim (fun hr => hr h.1) (fun hf => h.2 hf)]
    · dsimp only
      rw [← CoilChannel.sensed_eq]
      rfl
  · have hdue : offCurrentDue c s = true := by rw [offCurrentDue, hreached, hjudged]; rfl
    have hconf := configured_of_senseJudged hjudged
    refine yields_of_due (due := offCurrentDue c s) rfl hdue ⟨fun hnot => ?_, fun hfault hkind => ?_, fun hfault hkind => ?_⟩
    · obtain ⟨hcoils, hreported⟩ := enterFault_spec (c := c) (k := .stuck) hconf
      rw [offCurrent_of_running hnot]
      refine ⟨?_, FaultReported.onCoils hreported _⟩
      show (enterFault c .stuck s).coils.set c { (enterFault c .stuck s).coils[c] with
        offTimer := some (startTimer (ms 5)) } = _
      have hcoil : (enterFault c .stuck s).coils[c] = faulted s.coils[c] .stuck (offTimerAfter s.coils[c]
          { s.coils[c].stopped .fault with faultKind := some .stuck } s.pins.sense[c]) := by
        rw [hcoils]
        exact Vector.getElem_set_self _
      rw [hcoil, hcoils, Vector.set_set]
      rfl
    · rw [offCurrent_of_fault hfault hkind]
      exact ⟨(reportFault_framed c .stuck _).2 .coils (by simp), faultReported_reportFault hconf _⟩
    · rw [offCurrent_of_stuck hfault hkind]
      exact ⟨rfl, onCoils_framed _ s⟩

end Sys2Proof.Machine
end


section
/-! The passing of time, block by block (O4), and the configuration image (Tables 11-1 to 11-3): the acceptance checks in
order (O24), where each value is stored, and the reflex records (O25). -/

namespace Sys2Proof.Machine

/-! ### One quantum of time -/

theorem advanceTimer_eq (w : Timer) : advanceTimer w = ranIfRunning w := by
  cases w <;> rfl

theorem Loader.elapse_eq (l : Loader) : l.elapse = match l with
    | .waiting n w => .waiting n (ran w)
    | other => other := by
  cases l <;> rfl

theorem coilOutput_iff (ch : CoilChannel) : coilOutput ch = true ↔
    ch.state = .kick ∨ (ch.state = .hold ∧ ch.pwmPhase < ch.driven * 125) := by
  unfold coilOutput
  cases ch.state
  case hold =>
    exact ⟨fun h => .inr ⟨rfl, of_decide_eq_true h⟩, fun h => h.elim (fun hkick => nomatch hkick) fun h => decide_eq_true h.2⟩
  all_goals simp

theorem CoilChannel.elapse_eq (ch : CoilChannel) (sense : Sense) : ch.elapse sense = { ch with
    kickTimer := ranIfRunning ch.kickTimer
    holdTimer := ranIfRunning ch.holdTimer
    restTimer := ranIfRunning ch.restTimer
    offTimer := ranIfRunning ch.offTimer
    currentSeen := ch.currentSeen || (decide (ch.state = .kick) && decide (sense ≠ .none))
    pwmPhase := if ch.state = .hold then (ch.pwmPhase + 1) % ms 1 else ch.pwmPhase
    driven := if ch.state = .hold ∧ ms 1 ≤ ch.pwmPhase + 1 then ch.duty.getD 0 else ch.driven } := by
  simp only [CoilChannel.elapse, advanceTimer_eq]
  rfl

theorem lampDuty_eq (l : LinkState) (cfg : LampSettings) (stage : LampStage) :
    lampDuty l cfg stage = if l = .offline ∨ l = .held then 0 else dutyOfStage cfg stage := by
  cases l <;> cases stage <;> rfl

theorem lampOutput_iff (s : State) (n : LampNo) : lampOutput s n = true ↔
    s.link.state ≠ .offline ∧ s.link.state ≠ .held ∧ s.lamps.pwmPhase < s.lamps.lamps[n].driven * 125 := by
  rw [lampOutput, Bool.and_eq_true, lampsRun_iff, decide_eq_true_iff, and_assoc]
  rfl

theorem LampChannel.elapse_eq (ch : LampChannel) (phase duty : Nat) :
    ch.elapse (decide (pwmPeriod ≤ phase + 1)) duty = { ch with
      flash := ch.flash.map fun f => { f with timer := ran f.timer }
      warmUp := ranIfRunning ch.warmUp
      driven := if phase + 1 < ms 1 then ch.driven else duty } := by
  have hperiod : (if decide (pwmPeriod ≤ phase + 1) = true then duty else ch.driven) =
      if phase + 1 < ms 1 then ch.driven else duty := by
    rw [← ite_not (phase + 1 < ms 1)]
    exact if_congr (by rw [decide_eq_true_iff, Nat.not_lt]; rfl) rfl rfl
  rw [LampChannel.elapse, advanceTimer_eq, hperiod]
  rfl

theorem Bus.elapse_eq (b : Bus) : b.elapse = { b with
    wire := b.wire.map fun w => { w with timer := ran w.timer }
    beatTimer := ranIfRunning b.beatTimer
    byteLeft := b.byteLeft - 1
    idle := if b.started = true ∧ b.wire = none ∧ b.byteLeft = 0 then min (b.idle + 1) (bits 516) else b.idle } := by
  have hidle : (b.started && b.wire.isNone && decide (b.byteLeft = 0)) =
      decide (b.started = true ∧ b.wire = none ∧ b.byteLeft = 0) := by
    cases b.wire <;> simp
  simp only [Bus.elapse, advanceTimer_eq, hidle, decide_eq_true_eq]
  rfl

/-- Settles O4: `elapse` block by block, each timer by `advanceTimer_eq`. -/
theorem timeRunsTimersOnly : Obligations.TimeRunsTimersOnly := by
  intro s
  refine ⟨⟨rfl, fun b hb => ?_⟩, ?_, ?_, rfl, fun c => ?_, fun c => coilOutput_iff _, ?_, fun n => ?_, ?_, ?_,
    fun n => ?_, ?_, lampOutput_iff s, s.bus.elapse_eq, ?_, ?_⟩
  · cases b
    case startUp | link | sched | coils | thermal | switches | lamps | bus | rail | faultLine => simp at hb
    all_goals rfl
  · simp only [elapse, advanceTimer_eq, Loader.elapse_eq] <;> rfl
  · simp only [elapse, LinkUnit.elapse, advanceTimer_eq]
    rfl
  · exact (elapse_coils s c).trans (CoilChannel.elapse_eq _ _)
  · simp only [elapse, advanceTimer_eq]
  · exact elapse_records s n
  · simp only [elapse]
  · simp only [elapse]
    rfl
  · rw [elapse_lamps, LampChannel.elapse_eq, lampDuty_eq]
  · simp only [elapse, elapseLamps, advanceTimer_eq]
    rfl
  · simp only [elapse, advanceTimer_eq]
  · simp only [elapse, advanceTimer_eq]

/-! ### The acceptance checks -/

theorem toList_eq_map {α : Type} {n : Nat} (v : Vector α n) : v.toList = (List.finRange n).map fun i => v[i] := by
  refine List.ext_getElem (by simp) fun i hi hj => ?_
  simp

theorem holdSourcesHold_iff {coils : Vector CoilSettings 16} :
    holdSourcesHold coils = true ↔ ∀ c : CoilNo, coils[c].cls = .flipper → coils[c].holdSource ≤ 31 := by
  rw [holdSourcesHold, toList_eq_map]
  simp [imp_iff_not_or]

theorem coilDrawsHold_iff {t : Settings} : coilDrawsHold t = true ↔ ∀ c : CoilNo, t.coils[c].cls ≠ .flipper →
    t.coils[c].draw ≤ min t.ceiling (t.capacity - t.headroom) - t.reserve := by
  rw [coilDrawsHold, toList_eq_map]
  simp [imp_iff_not_or]

/-- The outcome of a list of checks is that of the first that does not hold. -/
def firstFailed (checks : List (LoadOutcome × Bool)) : LoadOutcome :=
  ((checks.find? fun p => !p.2).map Prod.fst).getD .accepted

theorem firstFailed_cons (o : LoadOutcome) (p : Prop) [Decidable p] (checks : List (LoadOutcome × Bool)) :
    firstFailed ((o, decide p) :: checks) = if ¬p then o else firstFailed checks := by
  by_cases h : p <;> simp [firstFailed, h]

/-- Settles O24: both sides take the checks in the table's order. -/
theorem acceptanceChecksInOrder : Obligations.AcceptanceChecksInOrder := by
  intro img strap
  show loadOutcome img strap = firstFailed (acceptanceChecks img strap)
  simp only [acceptanceChecks, firstFailed_cons, Nat.not_le, ← holdSourcesHold_iff, ← coilDrawsHold_iff,
    Bool.not_eq_true]
  rfl

/-! ### The fields of an image -/

theorem fieldAt_top (l : List Byte) (n : Nat) : fieldAt l n 7 6 = byteAt l n / 64 := by
  have hlt := byteAt_lt l n
  rw [fieldAt]
  exact Nat.mod_eq_of_lt (by omega)

theorem classOf_eq (n : Nat) : classOf n = if n = 1 then .latch else if n = 2 then .flipper else .pulse := by
  match n with
  | 0 | 1 | 2 | _ + 3 => rfl

theorem initialOf_eq (n : Nat) : initialOf n = if n = 1 then .lit else if n = 2 then .flash else .dark := by
  match n with
  | 0 | 1 | 2 | _ + 3 => rfl

theorem clamp_one_255 {n : Nat} (h : n < 256) : clamp 1 255 n = max 1 n := by
  rw [clamp]
  omega

theorem settingsOf_coil (img : List Byte) (c : CoilNo) : (settingsOf img).coils[c] = coilRecord img c.val :=
  Vector.getElem_ofFn _

theorem settingsOf_switch (img : List Byte) (n : SwitchNo) : (settingsOf img).switches[n] = switchRecord img n.val :=
  Vector.getElem_ofFn _

theorem settingsOf_lamp (img : List Byte) (n : LampNo) : (settingsOf img).lamps[n] = lampRecord img n.val :=
  Vector.getElem_ofFn _

theorem forall_mem_toList {α : Type} {n : Nat} {v : Vector α n} {p : α → Prop} :
    (∀ r ∈ v.toList, p r) ↔ ∀ i : Fin n, p v[i] := by
  rw [toList_eq_map]
  simp

section
variable (img : List Byte)

/-- Table 4: the ranges of a coil record in force. -/
theorem coilRecord_range (c : Nat) : 1 ≤ (coilRecord img c).draw ∧ (coilRecord img c).draw ≤ 63 ∧
    1 ≤ (coilRecord img c).kickTime ∧ (coilRecord img c).kickTime ≤ 255 ∧
    1 ≤ (coilRecord img c).duty ∧ (coilRecord img c).duty ≤ 16 ∧ (coilRecord img c).holdLimit ≤ 255 ∧
    (coilRecord img c).restTime ≤ 255 ∧ 1 ≤ (coilRecord img c).waitLimit ∧ (coilRecord img c).waitLimit ≤ 255 ∧
    (coilRecord img c).priority ≤ 3 ∧ (coilRecord img c).heatRate ≤ 255 ∧
    4 ≤ (coilRecord img c).shift ∧ (coilRecord img c).shift ≤ 15 ∧
    256 ≤ (coilRecord img c).trip ∧ (coilRecord img c).trip ≤ 65535 := by
  have hlt := byteAt_lt img
  have hhold := hlt (16 + 12 * c + 5)
  have hrest := hlt (16 + 12 * c + 6)
  have hheat := hlt (16 + 12 * c + 8)
  have hhigh := hlt (16 + 12 * c + 10)
  have hlow := hlt (16 + 12 * c + 10 + 1)
  simp only [coilRecord, clamp, fieldAt, pairAt]
  omega

theorem switchRecord_range (n : Nat) : 1 ≤ (switchRecord img n).closeDebounce ∧ (switchRecord img n).closeDebounce ≤ 31 ∧
    1 ≤ (switchRecord img n).openDebounce ∧ (switchRecord img n).openDebounce ≤ 31 := by
  simp only [switchRecord, clamp]
  omega

theorem lampRecord_range (n : Nat) : (lampRecord img n).glow ≤ 3 ∧ 1 ≤ (lampRecord img n).brightness ∧
    (lampRecord img n).brightness ≤ 16 ∧ 1 ≤ (lampRecord img n).halfPeriod ∧ (lampRecord img n).halfPeriod ≤ 255 := by
  simp only [lampRecord, clamp, fieldAt]
  omega

theorem settingsOf_reserve : (settingsOf img).reserve = flipperReserve (settingsOf img).coils := by
  simp only [settingsOf]

theorem flipperReserve_eq (coils : Vector CoilSettings 16) : flipperReserve coils =
    (allCoils.map fun c => if coils[c].cls = .flipper then coils[c].draw else 0).sum := by
  have hmap : coils.toList.map (fun c => if c.cls = .flipper then c.draw else 0) =
      allCoils.map fun c => if coils[c].cls = .flipper then coils[c].draw else 0 := by
    rw [toList_eq_map, List.map_map]
    exact List.map_congr_left fun _ _ => rfl
  exact congrArg List.sum hmap

theorem settingsStoredAt_settingsOf : SettingsStoredAt img (settingsOf img) := by
  refine ⟨rfl, rfl, rfl, rfl, rfl, rfl, rfl, rfl, ?_, ?_, ?_, fun c => ?_, fun n => ?_, fun n => ?_⟩
  · simp only [settingsOf, bitAt_eq]
  · simp only [settingsOf, bitAt_eq]
  · rw [settingsOf_reserve]
    exact flipperReserve_eq _
  · have hoffset (i : Nat) : 16 + 12 * c.val + i = 16 + i + 12 * c.val := Nat.add_right_comm _ _ _
    have hlow : 16 + 10 + 12 * c.val + 1 = 27 + 12 * c.val := by omega
    rw [settingsOf_coil, coilRecord]
    simp only [hoffset, hlow, pairAt, classOf_eq, fieldAt_low, clamp_one_255 (byteAt_lt img _)]
    rfl
  · have hopen : clamp 1 31 (byteAt img (209 + 2 * n.val) % 32) = max 1 (byteAt img (209 + 2 * n.val) % 32) := by
      rw [clamp]
      omega
    have hnext : 208 + 2 * n.val + 1 = 209 + 2 * n.val := by omega
    rw [settingsOf_switch, switchRecord, fieldAt_low, bitAt_eq, bitAt_eq, hnext]
    exact congrArg (fun d => SwitchSettings.mk _ d _ _) hopen
  · have hoffset (i : Nat) : 560 + 3 * n.val + i = 560 + i + 3 * n.val := Nat.add_right_comm _ _ _
    rw [settingsOf_lamp, lampRecord]
    simp only [hoffset, initialOf_eq, bitAt_eq, clamp_one_255 (byteAt_lt img _)]
    rfl

end

/-! ### Reflex records -/

theorem edgeSelectOf_of_le {n : Nat} (h : n ≤ 2) :
    edgeSelectOf n = some (if n = 0 then .close else if n = 1 then .opened else .both) := by
  match n, h with
  | 0, _ | 1, _ | 2, _ => rfl

theorem edgeSelectOf_of_gt {n : Nat} (h : ¬n ≤ 2) : edgeSelectOf n = none := by
  match n, h with
  | _ + 3, _ => rfl

theorem lampNumber_coe (n : LampNo) : lampNumber n.val = some n := dif_pos n.isLt

theorem coilOfClass_coe {coils : Vector CoilSettings 16} {k : CoilClass} {c : CoilNo} (h : coils[c].cls = k) :
    coilOfClass coils k c.val = some c := by
  rw [coilOfClass, dif_pos c.isLt]
  exact if_pos h

theorem coilOfClass_of_ne {coils : Vector CoilSettings 16} {k : CoilClass} {c : CoilNo} (h : coils[c].cls ≠ k) :
    coilOfClass coils k c.val = none := by
  rw [coilOfClass, dif_pos c.isLt]
  exact if_neg h

/-- Table 6-2: the checks on the condition of a reflex record. -/
abbrev ConditionHolds (code lamp : Nat) : Prop := code ≤ 2 ∧ (code ≠ 0 → lamp < 24)

theorem conditionOf_of_not {code lamp : Nat} (h : ¬ConditionHolds code lamp) : conditionOf code lamp = none := by
  match code, h with
  | 0, h => exact absurd ⟨Nat.zero_le _, fun hne => absurd rfl hne⟩ h
  | 1, h | 2, h =>
    have hlamp : ¬lamp < 24 := fun hlt => h ⟨by decide, fun _ => hlt⟩
    simp [conditionOf, lampNumber, hlamp]
  | _ + 3, _ => rfl

theorem conditionOf_of {code lamp : Nat} (h : ConditionHolds code lamp) : ∃ cond, conditionOf code lamp = some cond ∧
    (code = 0 → cond = .none) ∧
    (∀ n : LampNo, lamp = n.val → (code = 1 → cond = .lampLit n) ∧ (code = 2 → cond = .lampUnlit n)) := by
  obtain ⟨hcode, hlamp⟩ := h
  by_cases hzero : code = 0
  · subst hzero
    exact ⟨.none, rfl, fun _ => rfl, fun _ _ => ⟨(fun h => nomatch h), (fun h => nomatch h)⟩⟩
  · obtain ⟨n, rfl⟩ : ∃ n : LampNo, lamp = n.val := ⟨⟨lamp, hlamp hzero⟩, rfl⟩
    have hsame {m : LampNo} (h : n.val = m.val) : n = m := Fin.ext h
    match code, hcode, hzero with
    | 1, _, _ => exact ⟨.lampLit n, by simp [conditionOf, lampNumber_coe], (fun h => nomatch h),
        fun m hm => ⟨fun _ => by rw [hsame hm], (fun h => nomatch h)⟩⟩
    | 2, _, _ => exact ⟨.lampUnlit n, by simp [conditionOf, lampNumber_coe], (fun h => nomatch h),
        fun m hm => ⟨(fun h => nomatch h), fun _ => by rw [hsame hm]⟩⟩

/-- Table 6-2: the checks on the action of a reflex record. -/
abbrev ActionHolds (cls : CoilNo → CoilClass) (code target count : Nat) : Prop :=
  code ≤ 6 ∧ (code ≤ 2 → target < 16) ∧ (3 ≤ code → target < 24) ∧
  (∀ c : CoilNo, target = c.val → (code = 0 → cls c = .pulse) ∧ (code = 1 ∨ code = 2 → cls c = .latch)) ∧
  (code = 0 → 1 ≤ count ∧ count ≤ 15) ∧ (code = 6 → count ≤ 15)

section
variable {coils : Vector CoilSettings 16} {code target count : Nat}

/-- Table 6-2: the coil that an action of code 0 to 2 names, where its checks hold. -/
theorem exists_coil_of_actionHolds (h : ActionHolds (fun c => coils[c].cls) code target count) (hcode : code ≤ 2) :
    ∃ c : CoilNo, target = c.val ∧ coilOfClass coils (if code = 0 then .pulse else .latch) target = some c := by
  obtain ⟨-, hcoil, -, hcls, -⟩ := h
  obtain ⟨c, rfl⟩ : ∃ c : CoilNo, target = c.val := ⟨⟨target, hcoil hcode⟩, rfl⟩
  obtain ⟨hpulse, hlatch⟩ := hcls c rfl
  refine ⟨c, rfl, coilOfClass_coe ?_⟩
  by_cases hzero : code = 0
  · rw [if_pos hzero]
    exact hpulse hzero
  · rw [if_neg hzero]
    exact hlatch (by omega)

theorem exists_lamp_of_actionHolds {cls : CoilNo → CoilClass} (h : ActionHolds cls code target count)
    (hcode : 3 ≤ code) : ∃ n : LampNo, target = n.val ∧ lampNumber target = some n := by
  obtain ⟨-, -, hlamp, -⟩ := h
  exact ⟨⟨target, hlamp hcode⟩, rfl, dif_pos (hlamp hcode)⟩

/-- Table 11-2: the action of a reflex record, by its code. -/
def ActionStored (code target count : Nat) (a : ReflexAction) : Prop :=
  (∀ c : CoilNo, target = c.val →
    (code = 0 → a = .pulse c count) ∧ (code = 1 → a = .engage c) ∧ (code = 2 → a = .release c)) ∧
  (∀ n : LampNo, target = n.val →
    (code = 3 → a = .lampOn n) ∧ (code = 4 → a = .lampOff n) ∧ (code = 5 → a = .lampToggle n) ∧
    (code = 6 → a = .lampFlash n count))

theorem actionStored_coil {c : CoilNo} {a : ReflexAction} (htarget : target = c.val) (hcode : code ≤ 2)
    (h : (code = 0 → a = .pulse c count) ∧ (code = 1 → a = .engage c) ∧ (code = 2 → a = .release c)) :
    ActionStored code target count a := by
  refine ⟨fun d hd => ?_, fun n _ => by omega⟩
  obtain rfl : d = c := Fin.ext (hd.symm.trans htarget)
  exact h

theorem actionStored_lamp {n : LampNo} {a : ReflexAction} (htarget : target = n.val) (hcode : 3 ≤ code)
    (h : (code = 3 → a = .lampOn n) ∧ (code = 4 → a = .lampOff n) ∧ (code = 5 → a = .lampToggle n) ∧
      (code = 6 → a = .lampFlash n count)) : ActionStored code target count a := by
  refine ⟨fun c _ => by omega, fun m hm => ?_⟩
  obtain rfl : m = n := Fin.ext (hm.symm.trans htarget)
  exact h

theorem reflexActionOf_of (h : ActionHolds (fun c => coils[c].cls) code target count) :
    ∃ a, reflexActionOf coils code target count = some a ∧ ActionStored code target count a := by
  by_cases hcode : code ≤ 2
  · obtain ⟨c, htarget, hcoil⟩ := exists_coil_of_actionHolds h hcode
    obtain ⟨-, -, -, -, hcount, -⟩ := h
    match code, hcode with
    | 0, _ => exact ⟨.pulse c count, by simp [reflexActionOf, hcount rfl, show coilOfClass coils .pulse target = _ from hcoil],
        actionStored_coil htarget (by decide) (by simp)⟩
    | 1, _ => exact ⟨.engage c, by simp [reflexActionOf, show coilOfClass coils .latch target = _ from hcoil],
        actionStored_coil htarget (by decide) (by simp)⟩
    | 2, _ => exact ⟨.release c, by simp [reflexActionOf, show coilOfClass coils .latch target = _ from hcoil],
        actionStored_coil htarget (by decide) (by simp)⟩
  · obtain ⟨n, htarget, hlamp⟩ := exists_lamp_of_actionHolds h (by omega)
    obtain ⟨hle, -, -, -, -, hcount⟩ := h
    match code, hle, hcode with
    | 3, _, _ => exact ⟨.lampOn n, by simp [reflexActionOf, hlamp], actionStored_lamp htarget (by decide) (by simp)⟩
    | 4, _, _ => exact ⟨.lampOff n, by simp [reflexActionOf, hlamp], actionStored_lamp htarget (by decide) (by simp)⟩
    | 5, _, _ => exact ⟨.lampToggle n, by simp [reflexActionOf, hlamp], actionStored_lamp htarget (by decide) (by simp)⟩
    | 6, _, _ => exact ⟨.lampFlash n count, by simp [reflexActionOf, hlamp, hcount rfl],
        actionStored_lamp htarget (by decide) (by simp)⟩

theorem coilOfClass_eq_some {k : CoilClass} {c : CoilNo} (h : coilOfClass coils k target = some c) :
    target = c.val ∧ coils[c].cls = k := by
  unfold coilOfClass at h
  split at h
  next hlt =>
    split at h
    next hcls =>
      cases h
      exact ⟨rfl, hcls⟩
    next => exact nomatch h
  next => exact nomatch h

theorem lampNumber_eq_some {n : LampNo} (h : lampNumber target = some n) : target = n.val := by
  unfold lampNumber at h
  split at h
  next =>
    cases h
    rfl
  next => exact nomatch h

theorem actionHolds_of_coil {cls : CoilNo → CoilClass} {c : CoilNo} (htarget : target = c.val) (hcode : code ≤ 2)
    (hcls : cls c = if code = 0 then .pulse else .latch) (hcount : code = 0 → 1 ≤ count ∧ count ≤ 15) :
    ActionHolds cls code target count := by
  have hlt := c.isLt
  refine ⟨by omega, fun _ => by omega, fun _ => by omega, fun d hd => ?_, hcount, fun _ => by omega⟩
  obtain rfl : d = c := Fin.ext (hd.symm.trans htarget)
  exact ⟨fun h => by rw [hcls, if_pos h], fun h => by rw [hcls, if_neg (by omega)]⟩

theorem actionHolds_of_lamp {cls : CoilNo → CoilClass} {n : LampNo} (htarget : target = n.val) (hcode : 3 ≤ code)
    (hle : code ≤ 6) (hcount : code = 6 → count ≤ 15) : ActionHolds cls code target count := by
  have hlt := n.isLt
  exact ⟨hle, fun _ => by omega, fun _ => by omega, fun c _ => ⟨fun _ => by omega, fun _ => by omega⟩,
    fun _ => by omega, hcount⟩

/-- Table 6-2: an action is taken from a record only where its checks hold. -/
theorem actionHolds_of_reflexActionOf {a : ReflexAction} (h : reflexActionOf coils code target count = some a) :
    ActionHolds (fun c => coils[c].cls) code target count := by
  unfold reflexActionOf at h
  split at h
  · split at h
    next hcount =>
      obtain ⟨c, hcoil, -⟩ := Option.map_eq_some_iff.1 h
      obtain ⟨htarget, hcls⟩ := coilOfClass_eq_some hcoil
      exact actionHolds_of_coil htarget (by decide) hcls fun _ => hcount
    next => exact nomatch h
  · obtain ⟨c, hcoil, -⟩ := Option.map_eq_some_iff.1 h
    obtain ⟨htarget, hcls⟩ := coilOfClass_eq_some hcoil
    exact actionHolds_of_coil htarget (by decide) hcls fun h => nomatch h
  · obtain ⟨c, hcoil, -⟩ := Option.map_eq_some_iff.1 h
    obtain ⟨htarget, hcls⟩ := coilOfClass_eq_some hcoil
    exact actionHolds_of_coil htarget (by decide) hcls fun h => nomatch h
  · obtain ⟨n, hlamp, -⟩ := Option.map_eq_some_iff.1 h
    exact actionHolds_of_lamp (lampNumber_eq_some hlamp) (by decide) (by decide) fun h => nomatch h
  · obtain ⟨n, hlamp, -⟩ := Option.map_eq_some_iff.1 h
    exact actionHolds_of_lamp (lampNumber_eq_some hlamp) (by decide) (by decide) fun h => nomatch h
  · obtain ⟨n, hlamp, -⟩ := Option.map_eq_some_iff.1 h
    exact actionHolds_of_lamp (lampNumber_eq_some hlamp) (by decide) (by decide) fun h => nomatch h
  · split at h
    next hcount =>
      obtain ⟨n, hlamp, -⟩ := Option.map_eq_some_iff.1 h
      exact actionHolds_of_lamp (lampNumber_eq_some hlamp) (by decide) (by decide) fun _ => hcount
    next => exact nomatch h
  · exact nomatch h

end

section
variable {img : List Byte} {coils : Vector CoilSettings 16} {k : Nat}

theorem reflexChecksHold_iff {cls : CoilNo → CoilClass} : ReflexChecksHold img cls k ↔
    (1 ≤ reflexSource img k ∧ reflexSource img k ≤ 30) ∧ fieldAt img (272 + 6 * k + 1) 7 6 ≤ 2 ∧
    ConditionHolds (fieldAt img (272 + 6 * k + 2) 7 6) (fieldAt img (272 + 6 * k + 2) 4 0) ∧
    ActionHolds cls (byteAt img (272 + 6 * k + 3)) (byteAt img (272 + 6 * k + 4)) (byteAt img (272 + 6 * k + 5)) := by
  simp only [fieldAt_top, fieldAt_low, and_assoc]
  rfl

/-- Tables 6-2 and 11-2: a record whose checks hold is an entry in use, as it is stored. -/
theorem reflexRecord_of (h : ReflexChecksHold img (fun c => coils[c].cls) k) :
    ∃ e, reflexRecord img coils k = some e ∧ ReflexStoredAt img k e := by
  obtain ⟨hsource, hedge, hcond, haction⟩ := reflexChecksHold_iff.1 h
  obtain ⟨cond, hcondition, hnone, hlit⟩ := conditionOf_of hcond
  obtain ⟨a, hact, hcoils, hlamps⟩ := reflexActionOf_of haction
  refine ⟨{ source := reflexSource img k, switch := fieldAt img (272 + 6 * k + 1) 4 0
            edge := if fieldAt img (272 + 6 * k + 1) 7 6 = 0 then .close
              else if fieldAt img (272 + 6 * k + 1) 7 6 = 1 then .opened else .both
            condition := cond, action := a }, ?_, rfl, fieldAt_low _ _ _, ?_, ?_, ?_, hcoils, hlamps⟩
  · rw [reflexRecord, if_pos hsource, edgeSelectOf_of_le hedge, hcondition, hact]
  · simp only [fieldAt_top]
  · rwa [fieldAt_top] at hnone
  · rwa [fieldAt_top, fieldAt_low] at hlit

/-- R93, R94: what an entry in use is taken from. -/
theorem reflexRecord_fields {e : ReflexEntry} (h : reflexRecord img coils k = some e) :
    (1 ≤ reflexSource img k ∧ reflexSource img k ≤ 30) ∧
    edgeSelectOf (fieldAt img (272 + 6 * k + 1) 7 6) = some e.edge ∧
    conditionOf (fieldAt img (272 + 6 * k + 2) 7 6) (fieldAt img (272 + 6 * k + 2) 4 0) = some e.condition ∧
    reflexActionOf coils (byteAt img (272 + 6 * k + 3)) (byteAt img (272 + 6 * k + 4)) (byteAt img (272 + 6 * k + 5)) =
      some e.action := by
  unfold reflexRecord at h
  dsimp only at h
  split at h
  next hsource =>
    split at h
    next edge cond a hedge hcond haction =>
      cases h
      exact ⟨hsource, hedge, hcond, haction⟩
    next => exact nomatch h
  next => exact nomatch h

theorem reflexChecksHold_of {e : ReflexEntry} (h : reflexRecord img coils k = some e) :
    ReflexChecksHold img (fun c => coils[c].cls) k := by
  obtain ⟨hsource, hedge, hcond, haction⟩ := reflexRecord_fields h
  refine reflexChecksHold_iff.2 ⟨hsource, ?_, ?_, actionHolds_of_reflexActionOf haction⟩
  · exact not_not.1 fun hnot => nomatch hedge.symm.trans (edgeSelectOf_of_gt hnot)
  · exact not_not.1 fun hnot => nomatch hcond.symm.trans (conditionOf_of_not hnot)

theorem reflexRecord_isNone_iff :
    (reflexRecord img coils k).isNone = true ↔ ¬ReflexChecksHold img (fun c => coils[c].cls) k := by
  refine ⟨fun hnone hgood => ?_, fun hnot => ?_⟩
  · obtain ⟨e, he, -⟩ := reflexRecord_of hgood
    rw [he] at hnone
    exact nomatch hnone
  · cases h : reflexRecord img coils k with
    | none => rfl
    | some e => exact absurd (reflexChecksHold_of h) hnot

theorem reflexSetAside_eq : reflexSetAside img coils k =
    decide (byteAt img (272 + 6 * k) ≠ 0 ∧ ¬ReflexChecksHold img (fun c => coils[c].cls) k) := by
  rw [Bool.eq_iff_iff, decide_eq_true_iff, reflexSetAside, Bool.and_eq_true, decide_eq_true_iff, reflexRecord_isNone_iff]
  rfl

theorem reflexTableOf_entry (k : Fin 48) : (reflexTableOf img coils).entries[k] = reflexRecord img coils k.val :=
  Vector.getElem_ofFn _

end

/-- Settles O25: field by field (`settingsStoredAt_settingsOf`) and record by record (`reflexRecord_of`). -/
theorem valuesInForceInRange : Obligations.ValuesInForceInRange := by
  intro img
  have hbeat : 2 ≤ (settingsOf img).beat ∧ (settingsOf img).beat ≤ 25 := by
    simp only [settingsOf, clamp]
    omega
  have hquality : 1 ≤ (settingsOf img).quality ∧ (settingsOf img).quality ≤ 64 := by
    simp only [settingsOf, clamp]
    omega
  refine ⟨byteAt_le img 2, Nat.min_le_left _ _, byteAt_le img 4, byteAt_le img 5, hbeat.1, hbeat.2, hquality.1,
    hquality.2, byteAt_le img 8, byteAt_le img 9, forall_mem_toList.2 fun c => ?_, forall_mem_toList.2 fun n => ?_,
    forall_mem_toList.2 fun n => ?_, settingsStoredAt_settingsOf img, fun k hnot => ?_, fun k hgood => ?_, ?_⟩
  · rw [settingsOf_coil]
    exact coilRecord_range img c.val
  · rw [settingsOf_switch]
    exact switchRecord_range img n.val
  · rw [settingsOf_lamp]
    exact lampRecord_range img n.val
  · rw [reflexTableOf_entry]
    exact Option.isNone_iff_eq_none.1 (reflexRecord_isNone_iff.2 hnot)
  · rw [reflexTableOf_entry]
    exact reflexRecord_of hgood
  · show ((List.finRange 48).filter fun k => reflexSetAside img (settingsOf img).coils k.val).length = _
    simp only [reflexSetAside_eq]

end Sys2Proof.Machine
end


section
/-! The reflex table (O29, O30), and the edges that are handed to it: an edge of the station's own (O27) and a SWITCH
frame (O52). -/

namespace Sys2Proof.Machine

/-! ### The coil requests of a loaded table -/

/-- A coil action suits its coil's class, and a PULSE carries a count of 1–15 (R94). -/
def RequestSuits (coils : Vector CoilSettings 16) (r : CoilRequest) : Prop :=
  actionSuits coils[r.coil].cls r.action = true ∧ 1 ≤ r.pulses ∧ r.pulses ≤ 15

/-- The request that an action adds to the walk's list suits its coil. -/
def ReflexAction.Suits (coils : Vector CoilSettings 16) : ReflexAction → Prop
  | .pulse c n => coils[c].cls = .pulse ∧ 1 ≤ n ∧ n ≤ 15
  | .engage c | .release c => coils[c].cls = .latch
  | .lampOn _ | .lampOff _ | .lampToggle _ | .lampFlash _ _ => True

section
variable {coils : Vector CoilSettings 16}

/-- R94, Table 6-2: an action taken from a record suits its coil. -/
theorem suits_of_reflexActionOf {code target count : Nat} {a : ReflexAction}
    (h : reflexActionOf coils code target count = some a) : a.Suits coils := by
  unfold reflexActionOf at h
  split at h
  · split at h
    next hcount =>
      obtain ⟨c, hcoil, rfl⟩ := Option.map_eq_some_iff.1 h
      exact ⟨(coilOfClass_eq_some hcoil).2, hcount⟩
    next => exact nomatch h
  · obtain ⟨c, hcoil, rfl⟩ := Option.map_eq_some_iff.1 h
    exact (coilOfClass_eq_some hcoil).2
  · obtain ⟨c, hcoil, rfl⟩ := Option.map_eq_some_iff.1 h
    exact (coilOfClass_eq_some hcoil).2
  · obtain ⟨n, -, rfl⟩ := Option.map_eq_some_iff.1 h
    trivial
  · obtain ⟨n, -, rfl⟩ := Option.map_eq_some_iff.1 h
    trivial
  · obtain ⟨n, -, rfl⟩ := Option.map_eq_some_iff.1 h
    trivial
  · split at h
    next =>
      obtain ⟨n, -, rfl⟩ := Option.map_eq_some_iff.1 h
      trivial
    next => exact nomatch h
  · exact nomatch h

theorem forall_suits_append {l : List CoilRequest} {r : CoilRequest} (hl : ∀ x ∈ l, RequestSuits coils x)
    (hr : RequestSuits coils r) : ∀ x ∈ l ++ [r], RequestSuits coils x :=
  List.forall_mem_append.2 ⟨hl, List.forall_mem_singleton.2 hr⟩

theorem applyAction_suits {a : ReflexAction} (ha : a.Suits coils) {w : State × List CoilRequest}
    (hw : ∀ r ∈ w.2, RequestSuits coils r) : ∀ r ∈ (applyAction a w).2, RequestSuits coils r := by
  cases a with
  | pulse c n =>
    obtain ⟨hcls, hcount⟩ := ha
    exact forall_suits_append hw ⟨actionSuits_eq_true.2 (.inl ⟨hcls, rfl⟩), hcount⟩
  | engage c => exact forall_suits_append hw ⟨actionSuits_eq_true.2 (.inr ⟨ha, .inl rfl⟩), by simp⟩
  | release c => exact forall_suits_append hw ⟨actionSuits_eq_true.2 (.inr ⟨ha, .inr rfl⟩), by simp⟩
  | lampOn n | lampOff n | lampToggle n | lampFlash n k => exact hw

/-- R98: a walk's list suits where the entries in use do. -/
theorem walk_suits {s : State} (h : ∀ e, some e ∈ s.reflex.entries.toList → e.action.Suits coils) (src sw : Nat)
    (k : EdgeKind) : ∀ r ∈ (walk src sw k s).2, RequestSuits coils r := by
  unfold walk
  refine List.foldlRecOn (motive := fun w : State × List CoilRequest => ∀ r ∈ w.2, RequestSuits coils r) _ _
    (List.forall_mem_nil _) fun w hw slot hslot => ?_
  cases slot with
  | none => exact hw
  | some e =>
    unfold walkEntry
    dsimp only
    split
    · exact applyAction_suits (h e hslot) hw
    · exact hw

end

/-- Settles O29: the actions suit where they are taken from an image (`suits_of_reflexActionOf`), and a walk adds their
requests alone (`walk_suits`). -/
theorem reflexRequestsSuit : Obligations.ReflexRequestsSuit := by
  intro s img src sw k _ htable
  refine walk_suits (fun e he => ?_) src sw k
  rw [htable, toList_eq_map] at he
  obtain ⟨i, -, hi⟩ := List.mem_map.1 he
  rw [reflexTableOf_entry] at hi
  obtain ⟨-, -, -, haction⟩ := reflexRecord_fields hi
  exact suits_of_reflexActionOf haction

/-! ### The turns of a walk -/

section
variable {src sw : Nat} {k : EdgeKind} {s : State}

theorem edgeMatches_iff (sel : EdgeSelect) : edgeMatches sel k = true ↔
    sel = .both ∨ (sel = .close ∧ k = .close) ∨ (sel = .opened ∧ k = .opened) := by
  cases sel <;> cases k <;> simp [edgeMatches]

theorem conditionHolds_iff (c : Condition) : conditionHolds c s = true ↔
    ∀ n : LampNo, (c = .lampLit n → s.lamps.lamps[n].mode = .lit ∨ s.lamps.lamps[n].mode = .flash) ∧
      (c = .lampUnlit n → s.lamps.lamps[n].mode = .dark) := by
  cases c with
  | none => simp [conditionHolds]
  | lampLit m =>
    rw [conditionHolds, decide_eq_true_iff]
    refine ⟨fun h n => ⟨fun hn => ?_, fun hn => nomatch hn⟩, fun h => ?_⟩
    · cases hn
      cases hmode : s.lamps.lamps[m].mode
      case dark => exact absurd hmode h
      case lit => exact .inl rfl
      case flash => exact .inr rfl
    · rcases (h m).1 rfl with hmode | hmode <;> rw [hmode] <;> decide
  | lampUnlit m =>
    rw [conditionHolds, decide_eq_true_iff]
    refine ⟨fun h n => ⟨(fun hn => nomatch hn), fun hn => ?_⟩, fun h => (h m).2 rfl⟩
    cases hn
    exact h

theorem turnActs_iff {e : ReflexEntry} :
    TurnActs src sw k e s ↔ (entryMatches src sw k e && conditionHolds e.condition s) = true := by
  rw [Bool.and_eq_true, entryMatches, Bool.and_eq_true, Bool.and_eq_true, decide_eq_true_iff, decide_eq_true_iff,
    edgeMatches_iff, conditionHolds_iff, and_assoc, and_assoc]

theorem applyAction_eq (a : ReflexAction) (w : State × List CoilRequest) : applyAction a w = actionTaken a w.1 w.2 := by
  cases a <;> rfl

theorem walkEntry_of_turnActs {e : ReflexEntry} {w : State × List CoilRequest} (h : TurnActs src sw k e w.1) :
    walkEntry src sw k w (some e) = actionTaken e.action w.1 w.2 :=
  (if_pos (turnActs_iff.1 h)).trans (applyAction_eq _ w)

theorem walkEntry_of_not_turnActs {e : ReflexEntry} {w : State × List CoilRequest} (h : ¬TurnActs src sw k e w.1) :
    walkEntry src sw k w (some e) = w :=
  if_neg fun hacts => h (turnActs_iff.2 hacts)

variable (src sw k s)

/-- The state and list of a walk before entry `i`. -/
def walkBefore (i : Nat) : State × List CoilRequest :=
  (s.reflex.entries.toList.take i).foldl (walkEntry src sw k) (s, [])

theorem walkBefore_all : walkBefore src sw k s 48 = walk src sw k s := by
  rw [walkBefore, walk, List.take_of_length_le (by simp)]

theorem walkBefore_succ (i : Fin 48) :
    walkBefore src sw k s (i.val + 1) = walkEntry src sw k (walkBefore src sw k s i.val) s.reflex.entries[i] := by
  have hlt : i.val < s.reflex.entries.toList.length := by simp
  rw [walkBefore, List.take_succ_eq_append_getElem hlt, List.foldl_append]
  rfl

end

/-! ### A list of coil requests answered -/

/-- What an answer to a coil request keeps of the bus and of the service unit. -/
structure AnswerKeeps (s t : State) : Prop where
  general : t.bus.general = s.bus.general
  switchGaps : t.service.counters[10] = s.service.counters[10]
  switchDrops : t.service.counters[11] = s.service.counters[11]
  events (i : Nat) : s.service.events.getLsbD i = true → t.service.events.getLsbD i = true
  kicks (c : CoilNo) : t.coils[c].state = .kick → s.coils[c].state = .kick

namespace AnswerKeeps
variable {s t u : State}

theorem refl (s : State) : AnswerKeeps s s := ⟨rfl, rfl, rfl, fun _ h => h, fun _ h => h⟩

theorem trans (h : AnswerKeeps s t) (h' : AnswerKeeps t u) : AnswerKeeps s u :=
  ⟨h'.general.trans h.general, h'.switchGaps.trans h.switchGaps, h'.switchDrops.trans h.switchDrops,
    fun i hi => h'.events i (h.events i hi), fun c hc => h.kicks c (h'.kicks c hc)⟩

/-- A change of the coils, the scheduler and the bus that starts no kick. -/
theorem of_service (hgeneral : t.bus.general = s.bus.general) (hservice : t.service = s.service)
    (hkicks : ∀ c : CoilNo, t.coils[c].state = .kick → s.coils[c].state = .kick) : AnswerKeeps s t := by
  refine ⟨hgeneral, ?_, ?_, fun i hi => ?_, hkicks⟩ <;> rw [hservice]
  exact hi

theorem count {k : Counter} (hgaps : k.index ≠ 10) (hdrops : k.index ≠ 11) (s : State) :
    AnswerKeeps s (count k s) := by
  refine ⟨rfl, ?_, ?_, fun _ h => h, fun _ h => h⟩
  · exact Vector.getElem_set_ne k.index.isLt (by decide) fun h => hgaps (Fin.ext h)
  · exact Vector.getElem_set_ne k.index.isLt (by decide) fun h => hdrops (Fin.ext h)

theorem raise (e : StickyEvent) (s : State) : AnswerKeeps s (raise e s) :=
  ⟨rfl, rfl, rfl, fun i hi => by
    show (s.service.events ||| e.mask).getLsbD i = true
    rw [BitVec.getLsbD_or, hi, Bool.true_or], fun _ h => h⟩

theorem queueFull (s : State) : AnswerKeeps s (Machine.raise .queueFull (Machine.count .queueFull s)) :=
  (count (by decide) (by decide) s).trans (raise .queueFull _)

theorem pulseRequest (c : CoilNo) (n : Nat) (o : Origin) (s : State) : AnswerKeeps s (pulseRequest c n o s).1 := by
  unfold Machine.pulseRequest
  split
  next e _ =>
    have hmerged (f : Scheduler → Scheduler) : AnswerKeeps s (s.onSched f) := of_service rfl rfl fun _ h => h
    exact (hmerged _).trans (count (k := .merged) (by decide) (by decide) _)
  · split
    · exact of_service (t := createEntry c .pulses n o s) rfl rfl fun _ h => h
    · exact queueFull s

theorem engageRequest (c : CoilNo) (o : Origin) (s : State) : AnswerKeeps s (engageRequest c o s).1 := by
  unfold Machine.engageRequest
  split
  · exact count (k := .merged) (by decide) (by decide) s
  · split
    · exact count (k := .merged) (by decide) (by decide) s
    · split
      · exact of_service (t := createEntry c .engage 1 o s) rfl rfl fun _ h => h
      · exact queueFull s

theorem moveChannel {c : CoilNo} {new : CoilChannel} (hnew : new.state ≠ .kick) (s : State) :
    AnswerKeeps s (moveChannel c new s) := by
  have hframe := moveChannel_framed c new s
  refine of_service (by rw [moveChannel_eq_noteDraw]; rfl) (hframe.2 .service (by simp)) fun d hd => ?_
  by_cases hdc : d = c
  · subst hdc
    rw [moveChannel_coil] at hd
    exact absurd hd hnew
  · rwa [moveChannel_other s c new hdc] at hd

theorem enterRest {c : CoilNo} (hcls : s.settings.coils[c].cls ≠ .flipper) : AnswerKeeps s (enterRest c s) := by
  have hrested := moveChannel (c := c) (new := s.coils[c].rested s.settings.coils[c].restTime)
    (CoilState.noConfusion : CoilState.rest ≠ .kick) s
  unfold Machine.enterRest
  dsimp only
  split
  · refine hrested.trans ?_
    rw [restEnds_of_not_flipper _ c (by rwa [moveChannel_settings])]
    exact moveChannel (CoilState.noConfusion : CoilState.idle ≠ .kick) _
  · exact hrested

theorem releaseRequest {c : CoilNo} (hcls : s.settings.coils[c].cls ≠ .flipper) :
    AnswerKeeps s (releaseRequest c s).1 := by
  unfold Machine.releaseRequest
  split
  · rw [removeEntry_eq]
    exact of_service rfl rfl fun _ h => h
  · split
    · exact enterRest hcls
    · exact refl s

theorem request (c : CoilNo) (a : CoilAction) (n : Nat) (o : Origin) (s : State) :
    AnswerKeeps s (request c a n o s).1 := by
  by_cases hpass : PassesChecks c a s
  · have hcls : s.settings.coils[c].cls ≠ .flipper := by
      obtain ⟨-, -, ⟨hcls, -⟩ | ⟨hcls, -⟩, -, -⟩ := hpass <;> rw [hcls] <;> decide
    rw [request_of_passes s c a n o hpass]
    cases a
    case pulse => exact pulseRequest c n o s
    case engage => exact engageRequest c o s
    case release => exact releaseRequest hcls
  · have hcount {k : Counter} (hk : (Machine.request c a n o s).1 = Machine.count k s) (hrefused : k = .refused ∨ k = .lockedOut) :
        AnswerKeeps s (Machine.request c a n o s).1 := by
      rw [hk]
      rcases hrefused with rfl | rfl <;> exact count (by decide) (by decide) s
    by_cases hrefused : linkRefuses s.link.state = true ∨ actionSuits s.settings.coils[c].cls a = false ∨
        s.coils[c].state = .fault
    · exact hcount (congrArg Prod.fst (request_of_refused s c a n o hrefused)) (.inl rfl)
    · obtain ⟨hlink, hsuits, hfault⟩ : linkRefuses s.link.state = false ∧
          actionSuits s.settings.coils[c].cls a = true ∧ s.coils[c].state ≠ .fault := by simpa using hrefused
      have hlockout : s.coils[c].state = .lockout := not_not.1 fun hnot =>
        hpass (passesChecks_iff.2 ⟨hlink, hsuits, hfault, hnot⟩)
      exact hcount (congrArg Prod.fst (request_of_lockedOut s c a n o hlink hsuits hlockout)) (.inr rfl)

theorem answerList (o : Origin) (l : List CoilRequest) (s : State) : AnswerKeeps s (answerList o l s) :=
  List.foldlRecOn (motive := AnswerKeeps s) l _ (refl s) fun _ hu r _ => hu.trans (request r.coil r.action r.pulses o _)

end AnswerKeeps

theorem answerList_framed (o : Origin) (l : List CoilRequest) (s : State) :
    Framed [.sched, .coils, .bus, .service] s (answerList o l s) :=
  Framed.foldl _ l s fun u (r : CoilRequest) => request_framed r.coil r.action r.pulses o u

/-- Settles O30: the walk as a run of turns (`walkBefore_succ`), each by `TurnActs`; the list request by request. -/
theorem walkTouchesLampsOnly : Obligations.WalkTouchesLampsOnly := by
  intro s src sw k o l r
  refine ⟨walk_framed src sw k s, ⟨walkBefore src sw k s, rfl, (walkBefore_all src sw k s).symm, fun i => ?_⟩, rfl, rfl,
    answerList_framed o l s, (AnswerKeeps.answerList o l s).kicks⟩
  rw [walkBefore_succ]
  refine ⟨fun e he hacts => ?_, fun e he hnot => ?_, fun hnone => ?_⟩
  · rw [he]
    exact walkEntry_of_turnActs hacts
  · rw [he]
    exact walkEntry_of_not_turnActs hnot
  · rw [hnone]
    rfl

/-! ### The turns of the FLIPPER channels at an edge -/

/-- What a press or a release of a FLIPPER channel keeps: it draws on no budget, so D_own and the mark stand (R23). -/
structure FlipperKeeps (s t : State) : Prop where
  frame : Framed [.coils, .sched, .bus] s t
  bus : t.bus = s.bus
  sched : t.sched = { s.sched with scanDue := t.sched.scanDue }
  scanDue : s.sched.scanDue = true → t.sched.scanDue = true

namespace FlipperKeeps
variable {s t u : State} {c : CoilNo}

theorem refl (s : State) : FlipperKeeps s s := ⟨Framed.refl _ s, rfl, rfl, id⟩

theorem trans (h : FlipperKeeps s t) (h' : FlipperKeeps t u) : FlipperKeeps s u :=
  ⟨h.frame.trans h'.frame, h'.bus.trans h.bus, h'.sched.trans (by rw [h.sched]), fun hs => h'.scanDue (h.scanDue hs)⟩

theorem moveChannel (hcls : s.settings.coils[c].cls = .flipper) (new : CoilChannel) :
    FlipperKeeps s (moveChannel c new s) := by
  have hcommitted : committedAfter c new s = s.sched.committed := committedAfter_of_flipper hcls
  refine ⟨moveChannel_framed c new s, ?_, ?_, ?_⟩ <;> rw [moveChannel_eq_noteDraw, moveRaw_eq, hcommitted]
  · exact (congrArg (markedIf · s) (decide_eq_false (not_not_intro rfl))).trans (markedIf_false s)
  · exact fun hs => by simp [hs]

theorem onCoils (f : Vector CoilChannel 16 → Vector CoilChannel 16) (s : State) : FlipperKeeps s (s.onCoils f) :=
  ⟨(onCoils_framed f s).mono (by simp), rfl, rfl, id⟩

theorem restEnds (hcls : s.settings.coils[c].cls = .flipper) : FlipperKeeps s (restEnds c s) := by
  unfold Machine.restEnds
  dsimp only
  split
  · exact moveChannel hcls _
  · exact moveChannel hcls _

theorem enterRest (hcls : s.settings.coils[c].cls = .flipper) : FlipperKeeps s (enterRest c s) := by
  unfold Machine.enterRest
  dsimp only
  split
  · refine (moveChannel hcls _).trans (restEnds ?_)
    rwa [moveChannel_settings]
  · exact moveChannel hcls _

theorem press (hcls : s.settings.coils[c].cls = .flipper) : FlipperKeeps s (press c s) := by
  unfold Machine.press
  split
  · exact moveChannel hcls _
  · exact refl s

theorem releaseFlipper (hcls : s.settings.coils[c].cls = .flipper) : FlipperKeeps s (releaseFlipper c s) := by
  rw [releaseFlipper_eq]
  split
  · exact (onCoils _ s).trans (enterRest hcls)
  · exact onCoils _ s

theorem flipperTurn (sw : SwitchNo) (k : EdgeKind) (s : State) (c : CoilNo) : FlipperKeeps s (flipperTurn sw k s c) := by
  unfold Machine.flipperTurn
  split
  next hsource =>
    cases k
    case close => exact press hsource.1
    case opened => exact releaseFlipper hsource.1
  next => exact refl s

theorem flipperEdge (sw : SwitchNo) (k : EdgeKind) (s : State) : FlipperKeeps s (flipperEdge sw k s) := by
  rw [flipperEdge_eq_foldl]
  exact List.foldlRecOn (motive := FlipperKeeps s) _ _ (refl s) fun u hu c _ => hu.trans (flipperTurn sw k u c)

end FlipperKeeps

/-- R88: an edge reaches the channels of its hold source alone. -/
theorem flipperEdge_coil_of_not_source (sw : SwitchNo) (k : EdgeKind) {s : State} {c : CoilNo}
    (h : ¬(s.settings.coils[c].cls = .flipper ∧ s.settings.coils[c].holdSource = sw.val)) :
    (flipperEdge sw k s).coils[c] = s.coils[c] := by
  obtain ⟨u, hu, hcoil, hturn⟩ := flipperEdge_coil sw k s c
  have hset : u.settings = s.settings := hu.2 .settings (by simp)
  rw [hturn, flipperTurn.eq_def, if_neg (by rwa [hset]), hcoil]

/-! ### An edge of the station's own -/

section
variable {n : SwitchNo} {k : EdgeKind} {s : State} {q : Qualify}

theorem edgeRecorded_switches (hq : s.switches.records[n].qualify = some q) : (edgeRecorded n s).switches =
    s.switches.withRecord n
      { level := if q.closed then .closed else .opened
        qualify := none
        edgeCount := s.switches.records[n].edgeCount + 1
        lastEdge := s.switches.clock
        sequence := if s.settings.switches[n].broadcast then s.switches.records[n].sequence + 1
                    else s.switches.records[n].sequence } := by
  have hclosed : qualifyClosed s.switches.records[n] = q.closed := by rw [qualifyClosed, hq]
  rw [← hclosed]
  rfl

theorem edgeRecorded_framed (n : SwitchNo) (s : State) : Framed [.switches] s (edgeRecorded n s) :=
  ⟨rfl, fun b hb => by cases b <;> first | rfl | simp at hb⟩

/-- R89, R90: the SWITCH frame of a broadcast edge is queued, or dropped and counted. -/
theorem appendSwitch_eq : appendSwitch n k s = if Broadcasts n s then
    if s.bus.general.length < 15
    then s.onBus fun b => { b with general := b.general ++ [.switch n k s.switches.records[n].sequence] }
    else raise .switchDrop (count .switchDrops s) else s := rfl

theorem appendSwitch_bus : (appendSwitch n k s).bus = { s.bus with
    general := if Broadcasts n s ∧ s.bus.general.length < 15
      then s.bus.general ++ [.switch n k s.switches.records[n].sequence] else s.bus.general } := by
  rw [appendSwitch_eq]
  by_cases hcast : Broadcasts n s
  · by_cases hroom : s.bus.general.length < 15
    · rw [if_pos hcast, if_pos hroom, if_pos ⟨hcast, hroom⟩]
      rfl
    · rw [if_pos hcast, if_neg hroom, if_neg fun h => hroom h.2]
      rfl
  · rw [if_neg hcast, if_neg fun h => hcast h.1]

theorem appendSwitch_service : (appendSwitch n k s).service =
    if Broadcasts n s ∧ 15 ≤ s.bus.general.length then
      { events := s.service.events ||| 0x20#16, raised := s.service.raised ||| 0x20#16
        counters := counted 11 s.service.counters }
    else s.service := by
  rw [appendSwitch_eq]
  by_cases hcast : Broadcasts n s
  · by_cases hroom : s.bus.general.length < 15
    · rw [if_pos hcast, if_pos hroom, if_neg fun h => absurd h.2 (not_le.2 hroom)]
      rfl
    · rw [if_pos hcast, if_neg hroom, if_pos ⟨hcast, not_lt.1 hroom⟩]
      rfl
  · rw [if_neg hcast, if_neg fun h => hcast h.1]

/-- The state in which the walk of an edge begins: the edge is recorded, and the FLIPPER channels and the bus have
taken it. -/
def edgeHandedOn (n : SwitchNo) (k : EdgeKind) (s : State) : State :=
  appendSwitch n k (flipperEdge n k (edgeRecorded n s))

variable (n k s)

theorem flipperKeeps_edge : FlipperKeeps (edgeRecorded n s) (flipperEdge n k (edgeRecorded n s)) :=
  FlipperKeeps.flipperEdge n k _

theorem broadcasts_flipperEdge : Broadcasts n (flipperEdge n k (edgeRecorded n s)) ↔ Broadcasts n s := by
  have hframe := (flipperKeeps_edge n k s).frame
  have hsettings : (flipperEdge n k (edgeRecorded n s)).settings = s.settings := hframe.2 .settings (by simp)
  have hlink : (flipperEdge n k (edgeRecorded n s)).link = s.link := hframe.2 .link (by simp)
  rw [Broadcasts, hsettings, hlink]

theorem edgeHandedOn_switches : (edgeHandedOn n k s).switches = (edgeRecorded n s).switches :=
  ((appendSwitch_framed n k _).2 .switches (by simp)).trans ((flipperKeeps_edge n k s).frame.2 .switches (by simp))

theorem edgeHandedOn_framed : Framed [.switches, .coils, .sched, .bus, .service] s (edgeHandedOn n k s) :=
  ((edgeRecorded_framed n s).mono (by simp)).trans
    (((flipperKeeps_edge n k s).frame.mono (by simp)).trans ((appendSwitch_framed n k _).mono (by simp)))

/-- R89: the sequence number of the SWITCH frame is the one that the edge has given the record. -/
theorem edgeHandedOn_bus : (edgeHandedOn n k s).bus = { s.bus with
    general := if Broadcasts n s ∧ s.bus.general.length < 15
      then s.bus.general ++ [.switch n k (s.switches.records[n].sequence + 1)] else s.bus.general } := by
  have hbus : (flipperEdge n k (edgeRecorded n s)).bus = s.bus := (flipperKeeps_edge n k s).bus
  have hswitches : (flipperEdge n k (edgeRecorded n s)).switches = (edgeRecorded n s).switches :=
    (flipperKeeps_edge n k s).frame.2 .switches (by simp)
  have hrecord : (edgeRecorded n s).switches.records[n] =
      s.switches.records[n].edged s.settings.switches[n] s.switches.clock := Vector.getElem_set_self _
  rw [edgeHandedOn, appendSwitch_bus, hbus, hswitches, hrecord]
  simp only [broadcasts_flipperEdge]
  by_cases hcast : Broadcasts n s
  · rw [SwitchRecord.edged, if_pos hcast.1]
  · rw [if_neg fun h => hcast h.1, if_neg fun h => hcast h.1]

theorem edgeHandedOn_service : (edgeHandedOn n k s).service =
    if Broadcasts n s ∧ 15 ≤ s.bus.general.length then
      { events := s.service.events ||| 0x20#16, raised := s.service.raised ||| 0x20#16
        counters := counted 11 s.service.counters }
    else s.service := by
  have hbus : (flipperEdge n k (edgeRecorded n s)).bus = s.bus := (flipperKeeps_edge n k s).bus
  have hservice : (flipperEdge n k (edgeRecorded n s)).service = s.service :=
    (flipperKeeps_edge n k s).frame.2 .service (by simp)
  rw [edgeHandedOn, appendSwitch_service, hbus, hservice]
  simp only [broadcasts_flipperEdge]

theorem edgeHandedOn_sched : (edgeHandedOn n k s).sched = (flipperEdge n k (edgeRecorded n s)).sched :=
  (appendSwitch_framed n k _).2 .sched (by simp)

theorem edgeHandedOn_coil {c : CoilNo}
    (h : ¬(s.settings.coils[c].cls = .flipper ∧ s.settings.coils[c].holdSource = n.val)) :
    (edgeHandedOn n k s).coils[c] = s.coils[c] := by
  have hcoils : (edgeHandedOn n k s).coils = (flipperEdge n k (edgeRecorded n s)).coils :=
    (appendSwitch_framed n k _).2 .coils (by simp)
  rw [hcoils]
  exact flipperEdge_coil_of_not_source n k (s := edgeRecorded n s) h

end

/-- A walk and the answers to its list. -/
def walkAnswered (o : Origin) (src sw : Nat) (k : EdgeKind) (u : State) : State :=
  answerList o (walk src sw k u).2 (walk src sw k u).1

theorem walkAnswered_framed (o : Origin) (src sw : Nat) (k : EdgeKind) (u : State) :
    Framed [.lamps, .sched, .coils, .bus, .service] u (walkAnswered o src sw k u) :=
  ((walk_framed src sw k u).mono (by simp)).trans ((answerList_framed o _ _).mono (by simp))

theorem answerKeeps_walkAnswered (o : Origin) (src sw : Nat) (k : EdgeKind) (u : State) :
    AnswerKeeps u (walkAnswered o src sw k u) := by
  have hwalk := walk_framed src sw k u
  have hcoils : (walk src sw k u).1.coils = u.coils := hwalk.2 .coils (by simp)
  refine AnswerKeeps.trans (AnswerKeeps.of_service ?_ (hwalk.2 .service (by simp)) fun c hc => by rwa [hcoils] at hc)
    (AnswerKeeps.answerList o _ _)
  exact congrArg Bus.general (hwalk.2 .bus (by simp))

theorem counted_self (i : Fin 15) (v : Vector Nat 15) : (counted i v)[i] = min (v[i] + 1) 65535 :=
  Vector.getElem_set_self _

theorem localEdge_of_walks {s : State} (h : walksLocal s.link.state = true) (src : Nat) (sw : SwitchNo) (k : EdgeKind) :
    localEdge src sw k s = walkAnswered .localSwitch src sw.val k s := if_pos h

theorem takeEdge_eq_walkAnswered {s : State} {n : SwitchNo} {q : Qualify} (hq : s.switches.records[n].qualify = some q)
    (htakes : takesEdges s.link.state = true) : takeEdge n s =
      walkAnswered .localSwitch (ownNumber s) n.val (edgeTimed q.closed) (edgeHandedOn n (edgeTimed q.closed) s) := by
  have hlink : (edgeHandedOn n (edgeTimed q.closed) s).link = s.link :=
    (edgeHandedOn_framed n (edgeTimed q.closed) s).2 .link (by simp)
  have hwalks : walksLocal (edgeHandedOn n (edgeTimed q.closed) s).link.state = true := by
    rw [hlink, ← htakes]
    cases s.link.state <;> rfl
  rw [takeEdge_eq hq, ← edgeHandedOn]
  exact localEdge_of_walks hwalks _ _ _

/-- Settles O27: the edge is recorded and handed on (`edgeHandedOn`); the walk and the answers to its list keep what
the statement names of the bus and the service unit (`answerKeeps_walkAnswered`). -/
theorem switchEdgeTaken : Obligations.SwitchEdgeTaken := by
  intro s n q hfalls
  have hdue := edgeDue_of_edgeFalls hfalls
  obtain ⟨htakes, -, hq, -⟩ := hfalls
  have htaken := takeEdge_eq_walkAnswered hq htakes
  have hhanded := edgeHandedOn_framed n (edgeTimed q.closed) s
  have hswitches := (edgeHandedOn_switches n (edgeTimed q.closed) s).trans (edgeRecorded_switches hq)
  have hbus := edgeHandedOn_bus n (edgeTimed q.closed) s
  have hservice := edgeHandedOn_service n (edgeTimed q.closed) s
  have hsched := edgeHandedOn_sched n (edgeTimed q.closed) s
  have hkept := flipperKeeps_edge n (edgeTimed q.closed) s
  have hcoil (c : CoilNo) := edgeHandedOn_coil n (edgeTimed q.closed) s (c := c)
  generalize edgeHandedOn n (edgeTimed q.closed) s = u at *
  generalize flipperEdge n (edgeTimed q.closed) (edgeRecorded n s) = v at *
  have hframe := walkAnswered_framed .localSwitch (ownNumber s) n.val (edgeTimed q.closed) u
  have hkeeps := answerKeeps_walkAnswered .localSwitch (ownNumber s) n.val (edgeTimed q.closed) u
  rw [← htaken] at hframe hkeeps
  have hsame : (takeEdge n s).switches = u.switches := hframe.2 .switches (by simp)
  have hgeneral : (takeEdge n s).bus.general = _ := hkeeps.general.trans (congrArg Bus.general hbus)
  refine ⟨takeEdge n s, exec_switchEdge_of_due hdue, hsame.trans hswitches, hgeneral, ?_, fun hdropped => ?_,
    ⟨u, htaken, hsame.symm, ?_, ?_, hcoil, ?_, ?_, hhanded⟩,
    (hhanded.mono (by simp)).trans (hframe.mono (by simp))⟩
  · rw [hkeeps.switchDrops, hservice]
    by_cases hdrop : Broadcasts n s ∧ 15 ≤ s.bus.general.length
    · rw [if_pos hdrop, if_pos (decide_eq_true hdrop)]
      exact counted_self 11 _
    · rw [if_neg hdrop, if_neg (by simpa using hdrop)]
  · refine hkeeps.events 5 ?_
    rw [hservice, if_pos (of_decide_eq_true hdropped)]
    simp
  · rw [hgeneral, hbus]
  · rw [hservice]
    exact if_congr decide_eq_true_iff.symm rfl rfl
  · rw [hsched]
    exact hkept.sched
  · rw [hsched]
    exact hkept.scanDue

/-! ### What a good frame keeps of the link unit and the counters -/

section
variable (s : State)

theorem endWindow_link : (endWindow s).link =
    { s.link with windowFrames := 0, windowBad := 0, degraded := degradedAfter s } := by
  rw [endWindow_eq]
  split
  next h => rw [h]; rfl
  · split
    next h => rw [h, setDegraded_eq]; rfl
    next h => rw [Bool.eq_false_iff.2 h, setDegraded_eq]; rfl

theorem endWindow_counters : (endWindow s).service.counters = s.service.counters := by
  rw [endWindow_eq]
  split
  · rfl
  · split <;> rw [setDegraded_eq] <;> rfl

theorem noteFrame_link (bad : Bool) : ∃ frames bads degraded, (noteFrame bad s).link =
    { s.link with windowFrames := frames, windowBad := bads, degraded := degraded } := by
  unfold noteFrame
  split
  · dsimp only
    split
    · exact ⟨_, _, _, congrArg (fun l : LinkUnit => { l with
        windowFrames := l.windowFrames + 1, windowBad := l.windowBad + if bad then 1 else 0 }) (endWindow_link s)⟩
    · exact ⟨_, _, _, rfl⟩
  · exact ⟨_, _, _, rfl⟩

theorem noteFrame_counters (bad : Bool) : (noteFrame bad s).service.counters = s.service.counters := by
  unfold noteFrame
  split
  · dsimp only
    split
    · exact endWindow_counters s
    · rfl
  · rfl

/-- R122, R141, R148: of the link unit a good frame changes the silence timer and the quality window. -/
theorem takeGood_link : ∃ silence frames bads degraded, (takeGood s).link =
    { s.link with silence := silence, windowFrames := frames, windowBad := bads, degraded := degraded } := by
  obtain ⟨frames, bads, degraded, hnoted⟩ := noteFrame_link (heard (count .good (received s))) false
  have hheard : ∃ silence, (heard (count .good (received s))).link = { s.link with silence := silence } := by
    unfold heard
    split <;> exact ⟨_, rfl⟩
  obtain ⟨silence, hsilence⟩ := hheard
  exact ⟨silence, frames, bads, degraded, by rw [takeGood, hnoted, hsilence]⟩

theorem takeGood_peers : (takeGood s).link.peers = s.link.peers := by
  obtain ⟨_, _, _, _, hlink⟩ := takeGood_link s
  rw [hlink]

theorem takeGood_memory : (takeGood s).link.memory = s.link.memory := by
  obtain ⟨_, _, _, _, hlink⟩ := takeGood_link s
  rw [hlink]

theorem takeGood_counters : (takeGood s).service.counters = counted 0 s.service.counters := by
  have hheard : (heard (count .good (received s))).service = (count .good (received s)).service :=
    (heard_framed _).2 .service (by simp)
  rw [takeGood, noteFrame_counters, hheard]
  rfl

theorem takeGood_counter {i : Fin 15} (h : i ≠ 0) : (takeGood s).service.counters[i] = s.service.counters[i] := by
  rw [takeGood_counters]
  exact Vector.getElem_set_ne (by decide) i.isLt fun h0 => h (Fin.ext h0.symm)

end

/-! ### DRAW frames -/

theorem find?_insertPeer_self (p : Peer) (l : List Peer) :
    (insertPeer p l).find? (fun x => x.station == p.station) = some p := by
  induction l with
  | nil => simp [insertPeer]
  | cons x l ih =>
    unfold insertPeer
    split
    · simp
    split
    · simp
    next hne => rw [List.find?_cons_of_neg (by simpa using fun h => hne h.symm), ih]

theorem find?_insertPeer_other {p : Peer} {n : Nat} (h : n ≠ p.station) (l : List Peer) :
    (insertPeer p l).find? (fun x => x.station == n) = l.find? fun x => x.station == n := by
  have hp : ¬(p.station == n) = true := by simpa using fun hn => h hn.symm
  induction l with
  | nil => simp [insertPeer, hp]
  | cons x l ih =>
    unfold insertPeer
    split
    · exact List.find?_cons_of_neg hp
    split
    next heq =>
      have hx : ¬(x.station == n) = true := by rwa [← heq]
      exact (List.find?_cons_of_neg (p := fun y : Peer => y.station == n) hp).trans
        (List.find?_cons_of_neg (p := fun y : Peer => y.station == n) hx).symm
    next =>
      rw [List.find?_cons, List.find?_cons, ih]

section
variable {f : Frame} {s : State}

theorem takeDraw_of_not_held (h : s.link.state ≠ .held) : takeDraw f s =
    promptScan (s.onLink fun l => { l with peers := insertPeer (peerOf s.settings.beat f) l.peers }) := if_neg h

theorem takeDraw_framed (f : Frame) (h : s.link.state ≠ .held) : Framed [.link, .sched] s (takeDraw f s) := by
  rw [takeDraw_of_not_held h]
  exact ((onLink_framed _ s).mono (by simp)).trans ((promptScan_framed _).mono (by simp))

theorem takeDraw_link (f : Frame) (h : s.link.state ≠ .held) : (takeDraw f s).link =
    { s.link with peers := insertPeer (peerOf s.settings.beat f) s.link.peers } := by
  rw [takeDraw_of_not_held h]
  rfl

theorem takeDraw_scanDue (f : Frame) (h : s.link.state ≠ .held) : (takeDraw f s).sched.scanDue = true := by
  rw [takeDraw_of_not_held h]
  rfl

end

/-! ### SWITCH frames -/

section
variable {station sw seq : Nat} {e : EdgeKind} {f : Frame} {s : State}

/-- R150: the frame leaves a gap after the last one that the memory holds for its pair. -/
def leavesGap (station sw seq : Nat) (e : EdgeKind) (s : State) : Bool :=
  (edgeRecordAt station sw s).any fun r => isGap r.last seq e

theorem isGap_iff {last : Option (Nat × EdgeKind)} :
    isGap last seq e = true ↔ ∃ q k, last = some (q, k) ∧ ¬(seq = (q + 1) % 16 ∧ e ≠ k) := by
  cases last with
  | none => simp [isGap]
  | some p =>
    obtain ⟨q, k⟩ := p
    rw [isGap, Bool.not_eq_true', Bool.and_eq_false_iff, decide_eq_false_iff_not, decide_eq_false_iff_not, ← not_and_or]
    refine ⟨fun h => ⟨q, k, rfl, h⟩, ?_⟩
    rintro ⟨q', k', hlast, h⟩
    cases hlast
    exact h

theorem leavesGap_iff : leavesGap station sw seq e s = true ↔
    ∃ r ∈ edgeRecordAt station sw s, ∃ q k, r.last = some (q, k) ∧ ¬(seq = (q + 1) % 16 ∧ e ≠ k) := by
  rw [leavesGap, Option.any_eq_true]
  simp only [isGap_iff]
  rfl

theorem edgeRecordAt_eq_none (h : edgeRecordAt station sw s = none) (last : Option (Nat × EdgeKind)) :
    (s.link.memory.map fun r => if r.station = station ∧ r.switch = sw then { r with last := last } else r) =
      s.link.memory := by
  refine (List.map_congr_left fun r hr => if_neg fun hpair => ?_).trans (List.map_id _)
  have hnot := List.find?_eq_none.1 h r hr
  rw [Bool.and_eq_true, decide_eq_true_iff, decide_eq_true_iff] at hnot
  exact hnot hpair

/-- R150: the check of a SWITCH frame, whole. -/
theorem edgeNoted_eq : edgeNoted station sw seq e s = { s with
    link := { s.link with memory := s.link.memory.map fun r =>
      if r.station = station ∧ r.switch = sw then { r with last := some (seq, e) } else r }
    service := if leavesGap station sw seq e s then
      { events := s.service.events ||| 0x40#16, raised := s.service.raised ||| 0x40#16
        counters := counted 10 s.service.counters } else s.service } := by
  have hcases : edgeNoted station sw seq e s = match edgeRecordAt station sw s with
      | none => s
      | some r => recordEdge station sw seq e
          (if isGap r.last seq e then raise .switchGap (count .switchGaps s) else s) := rfl
  rw [hcases]
  cases hrecord : edgeRecordAt station sw s with
  | none =>
    rw [leavesGap, hrecord, edgeRecordAt_eq_none hrecord]
    rfl
  | some r =>
    rw [leavesGap, hrecord]
    dsimp only [Option.any_some]
    by_cases hgap : isGap r.last seq e = true
    · rw [if_pos hgap, if_pos hgap]
      rfl
    · rw [if_neg hgap, if_neg hgap]
      rfl

theorem edgeOf_eq (payload : List Byte) : edgeOf payload = if 128 ≤ byteAt payload 1 then .close else .opened := by
  have hlt := byteAt_lt payload 1
  rw [edgeOf, bitAt_eq]
  exact if_congr (by rw [decide_eq_true_iff]; omega) rfl rfl

theorem remoteEdge_of_walks (h : walksRemote s.link.state = true) (src : Nat) :
    remoteEdge src sw e s = walkAnswered .remoteSwitch src sw e s := if_pos h

end

section
variable (src sw seq : Nat) (e : EdgeKind) (s : State)

theorem remoteEdge_framed : Framed [.lamps, .sched, .coils, .bus, .service] s (remoteEdge src sw e s) := by
  by_cases hwalks : walksRemote s.link.state = true
  · rw [remoteEdge_of_walks hwalks]
    exact walkAnswered_framed _ src sw e s
  · rw [remoteEdge, if_neg hwalks]
    exact Framed.refl _ s

theorem answerKeeps_remoteEdge : AnswerKeeps s (remoteEdge src sw e s) := by
  by_cases hwalks : walksRemote s.link.state = true
  · rw [remoteEdge_of_walks hwalks]
    exact answerKeeps_walkAnswered _ src sw e s
  · rw [remoteEdge, if_neg hwalks]
    exact AnswerKeeps.refl s

theorem edgeNoted_framed : Framed [.link, .service] s (edgeNoted src sw seq e s) := by
  rw [edgeNoted_eq]
  exact ⟨rfl, fun b hb => by cases b <;> first | rfl | simp at hb⟩

theorem leavesGap_takeGood : leavesGap src sw seq e (takeGood s) = leavesGap src sw seq e s := by
  rw [leavesGap, leavesGap, edgeRecordAt, edgeRecordAt, takeGood_memory]

/-- R150, R143, R96, R100: a SWITCH frame, once it is counted, at the edge memory and then at the reflex table. -/
theorem switchTaken :
    let gap : Prop := ∃ r ∈ edgeRecordAt src sw s, ∃ q k, r.last = some (q, k) ∧ ¬(seq = (q + 1) % 16 ∧ e ≠ k)
    let g := takeGood s
    let t := remoteEdge src sw e (edgeNoted src sw seq e g)
    (gap → t.service.counters[10] = min (s.service.counters[10] + 1) 65535 ∧
      t.service.events.getLsbD 6 = true) ∧
    (¬gap → t.service.counters[10] = s.service.counters[10]) ∧
    t.link.memory = (s.link.memory.map fun r =>
      if r.station = src ∧ r.switch = sw then { r with last := some (seq, e) } else r) ∧
    (∃ u : State,
      (s.link.state = .listen ∨ s.link.state = .announced ∨ s.link.state = .armed →
        t = answerList .remoteSwitch (walk src sw e u).2 (walk src sw e u).1) ∧
      (s.link.state = .offline ∨ s.link.state = .duplicate ∨ s.link.state = .held → t = u) ∧
      (gap → u.service = { events := g.service.events ||| 0x40#16, raised := g.service.raised ||| 0x40#16
                           counters := counted 10 g.service.counters }) ∧
      (¬gap → u.service = g.service) ∧
      u.link = { g.link with memory := t.link.memory } ∧ Framed [.link, .service] g u) ∧
    Framed [.link, .bus, .service, .lamps, .sched, .coils] s t := by
  intro gap g t
  have hgap : leavesGap src sw seq e g = true ↔ gap := by
    rw [leavesGap_takeGood]
    exact leavesGap_iff
  have hcounter : g.service.counters[10] = s.service.counters[10] := takeGood_counter s (i := 10) (by decide)
  have hstate : (edgeNoted src sw seq e g).link.state = s.link.state := by
    rw [edgeNoted_eq]
    exact takeGood_linkState s
  have hlink : (edgeNoted src sw seq e g).link = { g.link with memory := s.link.memory.map fun r =>
      if r.station = src ∧ r.switch = sw then { r with last := some (seq, e) } else r } := by
    rw [edgeNoted_eq, ← takeGood_memory s]
  have hservice (h : gap) : (edgeNoted src sw seq e g).service =
      { events := g.service.events ||| 0x40#16, raised := g.service.raised ||| 0x40#16
        counters := counted 10 g.service.counters } := by
    rw [edgeNoted_eq]
    exact if_pos (hgap.2 h)
  have hsame (h : ¬gap) : (edgeNoted src sw seq e g).service = g.service := by
    rw [edgeNoted_eq]
    exact if_neg fun hleft => h (hgap.1 hleft)
  have hframe := remoteEdge_framed src sw e (edgeNoted src sw seq e g)
  have hkeeps := answerKeeps_remoteEdge src sw e (edgeNoted src sw seq e g)
  have hmemory : t.link.memory = s.link.memory.map fun r =>
      if r.station = src ∧ r.switch = sw then { r with last := some (seq, e) } else r := by
    have htlink : t.link = (edgeNoted src sw seq e g).link := hframe.2 .link (by simp)
    rw [htlink, hlink]
  refine ⟨fun h => ⟨?_, hkeeps.events 6 ?_⟩, fun h => ?_, hmemory,
    ⟨edgeNoted src sw seq e g, fun hwalks => ?_, fun hnot => ?_, hservice, hsame, ?_, edgeNoted_framed src sw seq e g⟩, ?_⟩
  · rw [hkeeps.switchGaps, hservice h, ← hcounter]
    exact counted_self 10 _
  · rw [hservice h]
    simp
  · rw [hkeeps.switchGaps, hsame h, hcounter]
  · refine remoteEdge_of_walks ?_ src
    rw [hstate]
    rcases hwalks with h | h | h <;> rw [h] <;> rfl
  · refine if_neg ?_
    rw [hstate]
    rcases hnot with h | h | h <;> rw [h] <;> decide
  · rw [hmemory, hlink]
  · have hgood := takeGood_framed s
    exact (hgood.mono (by simp)).trans (((edgeNoted_framed src sw seq e g).mono (by simp)).trans (hframe.mono (by simp)))

end

/-- Settles O52: a DRAW frame by `insertPeer`; a SWITCH frame by the check against its record (`edgeNoted_eq`) and the
walk that may follow. -/
theorem peerFramesTaken : Obligations.PeerFramesTaken := by
  intro s rx f
  refine ⟨fun hgood => yields_goodRow (d := .draw) rfl hgood ⟨fun hheld => ?_, fun hnot => ?_⟩,
    fun hgood => yields_goodRow (d := .switch) rfl hgood ?_⟩
  · exact if_pos ((takeGood_linkState s).trans hheld)
  · have hgoodNot : (takeGood s).link.state ≠ .held := (takeGood_linkState s).symm ▸ hnot
    have hlink := takeDraw_link f hgoodNot
    have hpeers : (takeDraw f (takeGood s)).link.peers = insertPeer (peerOf s.settings.beat f) s.link.peers := by
      rw [hlink, takeGood_settings, takeGood_peers]
    refine ⟨?_, fun n hn => ?_, takeDraw_scanDue f hgoodNot, by rw [hlink], takeDraw_framed f hgoodNot⟩
    · rw [peerAt, hpeers]
      exact find?_insertPeer_self (peerOf s.settings.beat f) _
    · rw [peerAt, hpeers]
      exact find?_insertPeer_other hn _
  · have hseq : fieldAt f.payload 1 3 0 = byteAt f.payload 1 % 16 := fieldAt_low _ _ _
    rw [takeSwitch_eq, hseq, edgeOf_eq]
    exact switchTaken _ _ _ _ s

end Sys2Proof.Machine
end


section
/-! The line (chapter 8): the bytes of a frame as they are received and as they stand on the line (O17), and what a
reception is (O49). -/

namespace Sys2Proof.Machine

/-! ### The bytes of a frame -/

theorem byte_toNat {n : Nat} (h : n ≤ 255) : (byte n).toNat = n := by
  rw [byte, BitVec.toNat_ofNat]
  exact Nat.mod_eq_of_lt (by omega)

section
variable {f : Frame} (x y : Byte)

/-- A frame's bytes with `x` and `y` in the place of its check (Table 8-1). -/
abbrev Frame.bytesWith (f : Frame) (x y : Byte) : List Byte := syncByte :: f.body ++ [x, y]

theorem byteAt_bytesWith_length (h : FitsTheLine f) :
    byteAt (f.bytesWith x y) 3 = 16 * f.kind + f.payload.length := by
  obtain ⟨-, -, hkind, hlen⟩ := h
  exact byte_toNat (by omega)

theorem length_bytesWith : (f.bytesWith x y).length = f.payload.length + 6 := by
  simp [Frame.body]

theorem lengthField_bytesWith (h : FitsTheLine f) : fieldAt (f.bytesWith x y) 3 3 0 = f.payload.length := by
  rw [fieldAt_low, byteAt_bytesWith_length x y h]
  obtain ⟨-, -, -, hlen⟩ := h
  omega

theorem frameOf_bytesWith (h : FitsTheLine f) : frameOf (f.bytesWith x y) = f := by
  have hpayload : ((f.bytesWith x y).drop 4).take f.payload.length = f.payload := List.take_left' rfl
  have hkind : fieldAt (f.bytesWith x y) 3 7 4 = f.kind := by
    rw [fieldAt_high, byteAt_bytesWith_length x y h]
    obtain ⟨-, -, -, hlen⟩ := h
    omega
  obtain ⟨hsrc, hdst, -, -⟩ := id h
  rw [frameOf, lengthField_bytesWith x y h, hpayload, hkind]
  exact congrArg₂ (fun a b => { src := a, dst := b, kind := f.kind, payload := f.payload : Frame })
    (byte_toNat hsrc) (byte_toNat hdst)

theorem checkAt_bytesWith : pairAt (f.bytesWith x y) (4 + f.payload.length) = 256 * x.toNat + y.toNat := by
  have hdrop : (f.bytesWith x y).drop (4 + f.payload.length) = [x, y] := by
    rw [← List.drop_drop]
    exact List.drop_left' rfl
  have hx := byteAt_drop (f.bytesWith x y) (4 + f.payload.length) 0
  have hy := byteAt_drop (f.bytesWith x y) (4 + f.payload.length) 1
  rw [hdrop] at hx hy
  rw [pairAt, ← hy]
  exact congrArg (256 * · + y.toNat) hx.symm

/-- R120, R122: a frame's bytes are good or bad by the check that follows them. -/
theorem classify_bytesWith (h : FitsTheLine f) : classify (f.bytesWith x y) =
    if 256 * x.toNat + y.toNat = (crc f.body).toNat then .good f else .bad := by
  have hbody : ((f.bytesWith x y).drop 1).take (3 + f.payload.length) = f.body :=
    List.take_left' (by
    simp only [Frame.body, List.length_cons]
    omega)
  obtain ⟨-, -, -, hlen⟩ := id h
  unfold classify
  dsimp only
  rw [lengthField_bytesWith x y h, if_pos ⟨rfl, hlen, length_bytesWith x y⟩, checkAt_bytesWith, hbody,
    frameOf_bytesWith x y h]

theorem pair_eq_iff {n : Nat} (hn : n < 65536) : [x, y] = pair n ↔ 256 * x.toNat + y.toNat = n := by
  have hx := x.isLt
  have hy := y.isLt
  have hhigh : (byte (n / 256)).toNat = n / 256 := byte_toNat (by omega)
  have hlow : (byte n).toNat = n % 256 := BitVec.toNat_ofNat n 8
  rw [pair, List.cons.injEq, List.cons.injEq, ← BitVec.toNat_inj, ← BitVec.toNat_inj, hhigh, hlow,
    eq_self, and_true]
  omega

end

theorem classify_bytes {f : Frame} (h : FitsTheLine f) : classify f.bytes = .good f :=
  (classify_bytesWith _ _ h).trans (if_pos ((pair_eq_iff _ _ (BitVec.isLt _)).1 rfl))

theorem length_bytes (f : Frame) : f.bytes.length = f.payload.length + 6 := length_bytesWith _ _

theorem lengthField_bytes {f : Frame} (h : FitsTheLine f) : fieldAt f.bytes 3 3 0 = f.payload.length :=
  lengthField_bytesWith _ _ h

theorem classify_eq_incomplete {l : List Byte} (h : ¬(fieldAt l 3 3 0 ≤ 12 ∧ l.length = fieldAt l 3 3 0 + 6)) :
    classify l = .incomplete := if_neg fun hcomplete => h hcomplete.2

/-- R122: the length field calls for all the bytes of the frame. -/
theorem classify_take {f : Frame} (h : FitsTheLine f) {n : Nat} (hn : n < f.bytes.length) :
    classify (f.bytes.take n) = .incomplete := by
  refine classify_eq_incomplete fun ⟨_, hlen⟩ => ?_
  rw [List.length_take, Nat.min_eq_left hn.le] at hlen
  have hbyte : byteAt (f.bytes.take n) 3 = byteAt f.bytes 3 := by
    rw [byteAt, byteAt, List.getD_eq_getElem?_getD, List.getD_eq_getElem?_getD, List.getElem?_take_of_lt (by omega)]
  have hfield : fieldAt (f.bytes.take n) 3 3 0 = f.payload.length := by
    rw [← lengthField_bytes h, fieldAt, fieldAt, hbyte]
  rw [length_bytes] at hn
  omega

/-! ### The line -/

theorem byteLevel_eq (x : Byte) {i : Nat} (h : i < 10) : byteLevel x i = if i = 0 then .active
    else if i = 9 then .passive
    else if x.getLsbD (i - 1) = Config.activeData then .active else .passive := by
  by_cases hstop : i = 9
  · subst hstop
    rfl
  · rw [byteLevel, if_neg hstop, if_pos (show i ≤ 8 by omega)]

/-- R118, R131: bit time `i` of byte `k` of an attempt. -/
theorem level_eq {w : Wire} {k i : Nat} (hlimit : w.timer.limit = bits (10 * w.frame.bytes.length))
    (hk : k < w.frame.bytes.length) (hi : i < 10) (helapsed : w.timer.elapsed / bits 1 = 10 * k + i) :
    w.level = byteLevel (w.frame.bytes.getD k 0) i := by
  have hin : w.timer.elapsed < w.timer.limit := by
    rw [hlimit]
    simp only [bits] at helapsed ⊢
    omega
  have hbyte : w.timer.elapsed / byteTime = k := by
    simp only [bits, byteTime] at helapsed ⊢
    omega
  have hbit : w.timer.elapsed % byteTime / bits 1 = i := by
    simp only [bits, byteTime] at helapsed ⊢
    omega
  rw [Wire.level, if_pos hin, hbyte, hbit]

/-- Settles O17: the check by `classify_bytesWith`, a cut by the length field, the line by `level_eq`. -/
theorem frameBytesReceivedAsSent : Obligations.FrameBytesReceivedAsSent := by
  intro f hfits
  refine ⟨classify_bytes hfits, length_bytes f, fun x y hcheck => ?_, fun n hn => classify_take hfits hn,
    fun s hidle => ?_, fun s w k i hwire hframe hlimit hk hi helapsed => ?_⟩
  · refine (classify_bytesWith x y hfits).trans (if_neg fun hsame => hcheck ?_)
    exact (pair_eq_iff x y (BitVec.isLt _)).2 hsame
  · rw [lineDriven, hidle]
  · subst hframe
    rw [lineDriven, hwire]
    exact (level_eq hlimit hk hi helapsed).trans (byteLevel_eq _ hi)

/-! ### Receptions -/

section
variable (s : State)

theorem receptionEnds_iff : receptionEnds s = true ↔ s.bus.receiver = .receiving ∧ s.bus.wire = none ∧
    s.bus.byteLeft = 0 ∧ s.bus.idle < bits 12 := by
  rw [receptionEnds, Bool.and_eq_true, Bool.and_eq_true, Bool.and_eq_true, decide_eq_true_iff, decide_eq_true_iff,
    decide_eq_true_iff, Option.isNone_iff_eq_none, and_assoc, and_assoc]
  rfl

theorem fragmentDue_iff : fragmentDue s = true ↔ (s.bus.receiver = .receiving ∨ s.bus.receiver = .discarding) ∧
    s.bus.wire = none ∧ s.bus.byteLeft = 0 ∧ bits 12 ≤ s.bus.idle := by
  rw [fragmentDue, Bool.and_eq_true, Bool.and_eq_true, Bool.and_eq_true, Bool.or_eq_true, decide_eq_true_iff,
    decide_eq_true_iff, decide_eq_true_iff, decide_eq_true_iff, Option.isNone_iff_eq_none, and_assoc, and_assoc]
  rfl

theorem classify_ne_incomplete_iff (l : List Byte) : classify l ≠ .incomplete ↔
    byteAt l 0 = 0xC3 ∧ byteAt l 3 % 16 ≤ 12 ∧ l.length = byteAt l 3 % 16 + 6 := by
  have hfield : fieldAt l 3 3 0 = byteAt l 3 % 16 := fieldAt_low _ _ _
  unfold classify
  dsimp only
  rw [hfield]
  by_cases hcomplete : byteAt l 0 = syncByte.toNat ∧ byteAt l 3 % 16 ≤ 12 ∧ l.length = byteAt l 3 % 16 + 6
  · rw [if_pos hcomplete]
    refine iff_of_true ?_ hcomplete
    split <;> exact fun h => nomatch h
  · rw [if_neg hcomplete]
    exact iff_of_false (fun h => h rfl) hcomplete

variable {s}

theorem endFragment_of_due (h : fragmentDue s = true) : endFragment s = { s with
    bus := { s.bus with receiver := .between }
    service := { s.service with counters := counted 2 s.service.counters } } := if_pos h

theorem endFragment_of_not_due (h : fragmentDue s = false) : endFragment s = s := if_neg (ne_true_of_eq_false h)

theorem startBit_of_idle (hstarted : s.bus.started = true) (hwire : s.bus.wire = none) : startBit s =
    (endFragment s).onBus fun b => { b with byteLeft := bits 10, idle := 0, receiver := b.receiverAtStart } := by
  rw [startBit, if_pos hstarted, hwire]
  rfl

theorem startBit_of_wire {w : Wire} (hstarted : s.bus.started = true) (hwire : s.bus.wire = some w) : startBit s =
    s.onBus fun b => { b with byteLeft := bits 10, idle := 0, wire := some w.clashed } := by
  rw [startBit, if_pos hstarted, hwire]
  rfl

theorem Bus.receiverAtStart_of_gap {b : Bus} (h : b.byteLeft = 0 ∧ idleGap ≤ b.idle) : b.receiverAtStart = .receiving := by
  rw [Bus.receiverAtStart, if_pos h]
  exact ite_self _

theorem Bus.receiverAtStart_eq (b : Bus) : b.receiverAtStart =
    if b.byteLeft = 0 ∧ bits 12 ≤ b.idle then .receiving
    else if b.receiver = .complete then .discarding else b.receiver := by
  by_cases hgap : b.byteLeft = 0 ∧ bits 12 ≤ b.idle
  · rw [Bus.receiverAtStart_of_gap hgap, if_pos hgap]
  · rw [Bus.receiverAtStart, if_neg hgap]
    by_cases hreceiving : b.receiver = .receiving
    · rw [if_pos hreceiving, hreceiving]
      rfl
    · rw [if_neg hreceiving]
      exact if_neg hgap

theorem Wire.clashed_eq (w : Wire) : w.clashed = { w with clashAt :=
    if w.clashAt = none ∧ w.timer.elapsed < w.timer.limit then some (bits 10 * (w.timer.elapsed / bits 10 + 1))
    else w.clashAt } := by
  by_cases hclash : w.clashAt = none ∧ w.timer.elapsed < w.timer.limit
  · rw [Wire.clashed, if_pos hclash.symm, if_pos hclash, Nat.mul_comm (bits 10)]
    rfl
  · rw [Wire.clashed, if_neg fun h => hclash h.symm, if_neg hclash]

/-! ### The quality window at a reception -/

theorem qualityRuns_iff {l : LinkState} : qualityRuns l = true ↔ l ≠ .offline ∧ l ≠ .held := by
  cases l <;> simp [qualityRuns]

theorem windowDue_eq_false (h : s.link.windowFrames < 256 ∨ qualityRuns s.link.state = false) : windowDue s = false := by
  rw [windowDue, Bool.and_eq_false_iff, decide_eq_false_iff_not]
  exact h.imp not_le.2 id

/-- R148: a good frame enters a window that is not full. -/
theorem noteFrame_good (h : windowDue s = false) : noteFrame false s = { s with
    link := { s.link with windowFrames :=
      if s.link.state = .offline ∨ s.link.state = .held then s.link.windowFrames else s.link.windowFrames + 1 } } := by
  rw [noteFrame]
  by_cases hruns : qualityRuns s.link.state = true
  · rw [if_pos hruns, if_neg (not_or.2 (qualityRuns_iff.1 hruns))]
    dsimp only
    rw [if_neg (ne_true_of_eq_false h)]
    rfl
  · rw [if_neg hruns, if_pos (not_not.1 fun hstate => hruns (qualityRuns_iff.2 (not_or.1 hstate)))]

/-- R148: a bad frame enters a window that is not full. -/
theorem noteFrame_bad (h : windowDue s = false) : noteFrame true s = { s with
    link := { s.link with
      windowFrames := s.link.windowFrames + if s.link.state ≠ .offline ∧ s.link.state ≠ .held then 1 else 0
      windowBad := s.link.windowBad + if s.link.state ≠ .offline ∧ s.link.state ≠ .held then 1 else 0 } } := by
  rw [noteFrame]
  by_cases hruns : qualityRuns s.link.state = true
  · rw [if_pos hruns, if_pos (qualityRuns_iff.1 hruns)]
    dsimp only
    rw [if_neg (ne_true_of_eq_false h)]
    rfl
  · rw [if_neg hruns, if_neg fun hstate => hruns (qualityRuns_iff.2 hstate)]
    rfl

/-- R148, log entry 9: a frame that meets a full window enters the next one. -/
theorem noteFrame_of_due (bad : Bool) (h : windowDue s = true) : noteFrame bad s = noteFrame bad (endWindow s) := by
  have hruns : qualityRuns s.link.state = true := (Bool.and_eq_true _ _ ▸ h).2
  have hended : windowDue (endWindow s) = false := windowDue_eq_false (.inl (by rw [endWindow_link]; exact Nat.zero_lt_succ 255))
  rw [noteFrame, if_pos hruns, noteFrame, endWindow_linkState, if_pos hruns]
  dsimp only
  rw [if_pos h, if_neg (ne_true_of_eq_false hended)]

theorem heard_eq (s : State) : heard s = s.onLink fun l => { l with
    silence := if s.link.state = .announced ∨ s.link.state = .armed
      then some (startTimer (cs (8 * s.settings.beat))) else l.silence } := by
  unfold heard
  cases hstate : s.link.state <;> rfl

/-- R148, R149: the end of a window, whole. -/
theorem endWindow_eq_record (s : State) : endWindow s = { s with
    link := { s.link with windowFrames := 0, windowBad := 0, degraded := degradedAfter s }
    sched := { s.sched with scanDue := s.sched.scanDue || decide (degradedAfter s ≠ s.link.degraded) }
    bus := markedIf (decide (degradedAfter s ≠ s.link.degraded)) s
    service := if degradedAfter s ≠ s.link.degraded ∧ degradedAfter s = true
      then { s.service with events := s.service.events ||| 0x200#16, raised := s.service.raised ||| 0x200#16 }
      else s.service } := by
  rw [endWindow_eq]
  by_cases hsame : degradedAfter s = s.link.degraded
  · rw [if_pos hsame, if_neg fun h => h.1 hsame, decide_eq_false (not_not_intro hsame), Bool.or_false, markedIf_false,
      hsame]
    rfl
  · rw [if_neg hsame, decide_eq_true hsame, Bool.or_true, setDegraded_eq, setDegraded_eq]
    by_cases hnow : degradedAfter s = true
    · rw [if_pos hnow, if_pos ⟨hsame, hnow⟩, hnow]
      rfl
    · rw [if_neg hnow, if_neg fun h => hnow h.2, Bool.eq_false_iff.2 hnow]
      rfl

/-- R122: a reception is complete and counted. -/
def receptionCounted (k : Counter) (s : State) : State := count k (received s)

theorem endWindow_receptionCounted (k : Counter) (s : State) :
    endWindow (receptionCounted k s) = receptionCounted k (endWindow s) := by
  have hdegraded : degradedAfter (receptionCounted k s) = degradedAfter s := rfl
  have hlink : (receptionCounted k s).link = s.link := rfl
  rw [endWindow_eq_record, endWindow_eq_record, hdegraded, hlink]
  by_cases hnow : degradedAfter s ≠ s.link.degraded ∧ degradedAfter s = true
  · rw [if_pos hnow, if_pos hnow]
    rfl
  · rw [if_neg hnow, if_neg hnow]
    rfl

theorem endWindow_heard (s : State) : endWindow (heard s) = heard (endWindow s) := by
  have hdegraded : degradedAfter (heard s) = degradedAfter s := by rw [heard_eq]; rfl
  have hservice : (heard s).service = s.service := (heard_framed s).2 .service (by simp)
  have hwas : (heard s).link.degraded = s.link.degraded := by rw [heard_eq]; rfl
  rw [endWindow_eq_record, endWindow_eq_record, hdegraded, hservice, hwas, heard_eq, heard_eq]
  rfl

theorem windowDue_receptionCounted (k : Counter) (s : State) : windowDue (receptionCounted k s) = windowDue s := rfl

theorem windowDue_heard (s : State) : windowDue (heard s) = windowDue s := by rw [heard_eq]; rfl

/-- R148: a good frame that meets a full window is taken as it is once the window has ended. -/
theorem takeGood_endWindow (h : windowDue s = true) : takeGood s = takeGood (endWindow s) := by
  have hdue : windowDue (heard (receptionCounted .good s)) = true := by
    rw [windowDue_heard, windowDue_receptionCounted, h]
  calc takeGood s = noteFrame false (heard (receptionCounted .good s)) := rfl
    _ = noteFrame false (endWindow (heard (receptionCounted .good s))) := noteFrame_of_due _ hdue
    _ = noteFrame false (heard (receptionCounted .good (endWindow s))) := by
      rw [endWindow_heard, endWindow_receptionCounted]
    _ = takeGood (endWindow s) := rfl

theorem badReception_of {rx : List Byte} (hends : receptionEnds s = true) (hbad : classify rx = .bad) :
    badReception rx s = noteFrame true (receptionCounted .bad s) := if_pos ⟨hends, hbad⟩

theorem receptionEnds_endWindow (s : State) : receptionEnds (endWindow s) = receptionEnds s := by
  rw [receptionEnds, endWindow_bus]
  rfl

theorem badReception_endWindow {rx : List Byte} (h : windowDue s = true) (hends : receptionEnds s = true)
    (hbad : classify rx = .bad) : badReception rx s = badReception rx (endWindow s) := by
  have hended : receptionEnds (endWindow s) = true := (receptionEnds_endWindow s).trans hends
  rw [badReception_of hends hbad, badReception_of hended hbad, noteFrame_of_due (s := receptionCounted .bad s) _ h,
    endWindow_receptionCounted]

theorem takeGood_of_not_due (h : windowDue s = false) : takeGood s = { s with
    bus := { s.bus with receiver := .complete }
    service := { s.service with counters := counted 0 s.service.counters }
    link := { s.link with
      silence := if s.link.state = .announced ∨ s.link.state = .armed
        then some (startTimer (cs (8 * s.settings.beat))) else s.link.silence
      windowFrames := if s.link.state = .offline ∨ s.link.state = .held then s.link.windowFrames
        else s.link.windowFrames + 1 } } := by
  have hdue : windowDue (heard (receptionCounted .good s)) = false := by
    rw [windowDue_heard, windowDue_receptionCounted, h]
  have htaken : takeGood s = noteFrame false (heard (receptionCounted .good s)) := rfl
  rw [htaken, noteFrame_good hdue, heard_eq]
  rfl

end

/-- Settles O49: each reception by the receiver and the line; a full window ends first (`takeGood_endWindow`). -/
theorem receptionsClassed : Obligations.ReceptionsClassed := by
  intro s rx f
  refine ⟨receptionEnds_iff s, fragmentDue_iff s, classify_ne_incomplete_iff rx, fun hstopped => ?_,
    fun hstarted hdue => ?_, fun hstarted hwire hnot => ?_, fun w hstarted hwire => ?_, fun hdue => ?_,
    fun hends hbad hwindow => ?_, fun hwindow => takeGood_of_not_due (windowDue_eq_false hwindow),
    fun hfull hruns => ?_, fun hgood => yields_goodRow (d := .ignored) rfl hgood rfl⟩
  · exact yields_of_eq (u := startBit s) rfl (if_neg (ne_true_of_eq_false hstopped)) rfl
  · obtain ⟨-, hwire, hleft, hgap⟩ := (fragmentDue_iff s).1 hdue
    refine yields_of_eq (u := startBit s) rfl (startBit_of_idle hstarted hwire) ?_
    rw [endFragment_of_due hdue]
    exact congrArg (fun r => { s with
        bus := { s.bus with byteLeft := bits 10, idle := 0, receiver := r }
        service := { s.service with counters := counted 2 s.service.counters } })
      (Bus.receiverAtStart_of_gap (b := { s.bus with receiver := .between }) ⟨hleft, hgap⟩)
  · refine yields_of_eq (u := startBit s) rfl (startBit_of_idle hstarted hwire) ?_
    rw [endFragment_of_not_due hnot]
    exact congrArg (fun r => { s with bus := { s.bus with byteLeft := bits 10, idle := 0, receiver := r } })
      (Bus.receiverAtStart_eq s.bus)
  · refine yields_of_eq (u := startBit s) rfl (startBit_of_wire hstarted hwire) ?_
    rw [Wire.clashed_eq]
    rfl
  · exact yields_of_eq (u := endFragment s) rfl (endFragment_of_due hdue) rfl
  · refine yields_of_eq (u := badReception rx s) rfl (badReception_of hends hbad) ?_
    exact noteFrame_bad (s := receptionCounted .bad s) (windowDue_eq_false hwindow)
  · have hdue : windowDue s = true := by
      rw [windowDue, hruns, decide_eq_true hfull]
      rfl
    refine yields_of_due (due := windowDue s) rfl hdue ⟨by rw [endWindow_link], takeGood_endWindow hdue,
      fun hends hbad => ?_⟩
    exact congrArg Host.Outcome.next (badReception_endWindow hdue hends hbad)

end Sys2Proof.Machine
end


section
/-! The transmit side of the bus interface (chapter 8): how an attempt begins (O56), succeeds (O57) and fails (O58). -/

namespace Sys2Proof.Machine

/-! ### The end of a series -/

section
variable {s : State} {r : Series}

theorem attemptFails_eq (h : s.bus.series = some r) : attemptFails s =
    if r.cut then endSeries s
    else if 7 ≤ r.failed then abandon r s
    else (endSeries s).onBus fun b => { b with series := some { r with failed := r.failed + 1 } } := by
  rw [attemptFails, h]

theorem clashDue_of {w : Wire} {e : Nat} (hwire : s.bus.wire = some w) (hclash : w.clashAt = some e)
    (h : e ≤ w.timer.elapsed) : clashDue s = true := by
  rw [clashDue, hwire]
  dsimp only
  rw [hclash]
  exact decide_eq_true h

theorem withdraw_scanDue (s : State) :
    (withdraw s).sched.scanDue = (s.sched.scanDue || s.sched.announce.isSome) := by
  cases ha : s.sched.announce with
  | none =>
    have hsame : withdraw s = s := by simp only [withdraw, ha]
    rw [hsame, Option.isSome_none, Bool.or_false]
  | some a => rw [withdraw_eq s ha, Option.isSome_some, Bool.or_true]

theorem abandonDraw_eq (s : State) : abandonDraw s = { withdraw (markDraw s) with link := { s.link with
    abandonCount := if s.link.state = .announced ∨ s.link.state = .armed
      then min 3 (s.link.abandonCount + 1) else s.link.abandonCount } } := by
  have hlink : (withdraw (markDraw s)).link = s.link :=
    ((withdraw_framed _).2 .link (by simp)).trans ((markDraw_framed s).2 .link (by simp))
  rw [abandonDraw]
  dsimp only
  rw [hlink]
  split
  · rw [State.onLink, hlink]
  · rw [← hlink]

/-- R134, R37: of the scheduler, the abandonment of a DRAW withdraws the announce. -/
theorem abandonDraw_sched (s : State) : (abandonDraw s).sched = { s.sched with
    queue := queueWithdrawn s, announce := none, scanDue := s.sched.scanDue || s.sched.announce.isSome } := by
  rw [abandonDraw_eq, withdraw_sched, withdraw_scanDue, markDraw_eq]
  rfl

theorem abandonDraw_bus (s : State) : (abandonDraw s).bus = markedIf true s := by
  obtain ⟨on, hon⟩ := withdraw_bus (markDraw s)
  have hmarked : (markDraw s).bus = markedIf true s := by rw [markDraw_eq]
  rw [abandonDraw_eq, hon]
  exact markedIf_markedIf on hmarked ((markDraw_framed s).2 .link (by simp))

theorem abandonDraw_framed (s : State) : Framed [.bus, .sched, .link] s (abandonDraw s) := by
  have hwithdrawn : Framed [.bus, .sched, .link] s (withdraw (markDraw s)) :=
    ((markDraw_framed s).mono (by simp)).trans ((withdraw_framed _).mono (by simp))
  rw [abandonDraw_eq]
  exact hwithdrawn.trans ⟨rfl, fun b hb => by cases b <;> first | rfl | simp at hb⟩

/-- R134: the series has ended, and the abandonment is reported and counted. -/
def abandonReported (s : State) : State := raise .txAbandon (count .abandoned (endSeries s))

theorem abandon_eq (r : Series) (s : State) : abandon r s = match r.kind with
    | .draw => abandonDraw (abandonReported s)
    | .switch => (abandonReported s).onBus fun b => { b with general := b.general.tail }
    | .reply => (abandonReported s).onBus fun b => { b with general := b.general.filter fun g => !isReply g } := rfl

theorem abandonReported_framed (s : State) : Framed [.bus, .service] s (abandonReported s) :=
  ⟨rfl, fun b hb => by cases b <;> first | rfl | simp at hb⟩

theorem abandon_service (r : Series) (s : State) : (abandon r s).service = (abandonReported s).service := by
  rw [abandon_eq]
  cases r.kind
  case draw => exact (abandonDraw_framed _).2 .service (by simp)
  case switch | reply => rfl

end

/-- Settles O58: by the series (`attemptFails_eq`); an abandoned DRAW by `abandonDraw_eq`. -/
theorem attemptFails_holds : Obligations.AttemptFails := by
  intro s r hseries hstop
  have hfailed : exec .txAttemptFailure s = .next (attemptFails s) := congrArg Host.Outcome.next (if_pos hstop)
  refine ⟨fun w e hwire hclash hreached => clashDue_of hwire hclash hreached, fun hless hcut => ?_, fun hcut => ?_,
    fun hcut hlast => ?_⟩
  · refine yields_of_eq hfailed (attemptFails_eq hseries) ?_
    rw [hcut, if_neg Bool.false_ne_true, if_neg (not_le.2 hless)]
    rfl
  · refine yields_of_eq hfailed (attemptFails_eq hseries) ?_
    rw [if_pos hcut]
    rfl
  · have hlastAttempt : lastAttempt s = true := by
      rw [lastAttempt, hseries]
      dsimp only
      rw [hcut, decide_eq_true hlast]
      rfl
    have hdue : (atStopBit s && lastAttempt s) = true := by rw [hstop, hlastAttempt]; rfl
    have habandoned : exec .txAbandon s = .next (attemptFails s) := congrArg Host.Outcome.next (if_pos hdue)
    refine ⟨hfailed.trans habandoned.symm, yields_of_eq habandoned (attemptFails_eq hseries) ?_⟩
    rw [hcut, if_neg Bool.false_ne_true, if_pos hlast]
    have hreported := abandonReported_framed s
    refine ⟨abandon_service r s, fun hkind => ?_, fun hkind => ?_, fun hkind => ?_⟩
    · rw [abandon_eq, hkind]
      exact ⟨rfl, hreported.trans ((onBus_framed _ _).mono (by simp))⟩
    · rw [abandon_eq, hkind]
      exact ⟨rfl, hreported.trans ((onBus_framed _ _).mono (by simp))⟩
    · rw [abandon_eq, hkind]
      refine ⟨(abandonDraw_bus _).trans ?_, abandonDraw_sched _, ?_,
        (hreported.mono (by simp)).trans ((abandonDraw_framed _).mono (by simp))⟩
      · rfl
      · dsimp only
        rw [abandonDraw_eq]
        rfl

/-! ### The frames of an attempt -/

section
variable {s : State}

theorem beginAttempt_eq (f : Frame) (s : State) : beginAttempt f s = { s with bus := onWire f s.bus } := by
  have htime : f.byteCount * byteTime = bits (10 * (f.payload.length + 6)) := by
    simp only [Frame.byteCount, byteTime, bits]
    omega
  rw [beginAttempt, htime]
  rfl

theorem waitOver_of {r : Series} (hseries : s.bus.series = some r) (hcut : r.cut = false) (hwire : s.bus.wire = none)
    (hstarted : s.bus.started = true) (hleft : s.bus.byteLeft = 0)
    (hidle : bits (12 + (if r.kind = .draw then 0 else if r.kind = .switch then 4 else 8) +
      16 * backOff (ownNumber s) r.failed) ≤ s.bus.idle) : waitOver s = true := by
  have hwait : priorityWait r.kind = if r.kind = .draw then 0 else if r.kind = .switch then 4 else 8 := by
    cases r.kind <;> rfl
  rw [← hwait] at hidle
  rw [waitOver, hseries]
  dsimp only
  rw [hstarted, hwire, hcut, decide_eq_true hleft, waitBits, decide_eq_true hidle]
  rfl

theorem flagBit_eq (b : Nat) (on : Bool) : flagBit b on = flagAt b on := rfl

theorem linkCode_eq (l : LinkState) : linkCode l = codeIn [.offline, .listen, .announced, .armed, .duplicate, .held] l := by
  cases l <;> rfl

theorem railCode_eq (r : RailState) : railCode r = codeIn [.down, .settling, .up, .sag] r := by
  cases r <;> rfl

theorem causeCode_eq (c : ResetCause) : causeCode c = codeIn [.powerOn, .supplyDip, .serviceRestart] c := by
  cases c <;> rfl

theorem outcomeCode_eq (o : Option LoadOutcome) : outcomeCode o = codeIn [.accepted, .readError, .format, .length, .check,
    .station, .capacity, .reserve, .holdSource, .coilDraw] (o.getD .accepted) := by
  cases o with
  | none => rfl
  | some o => cases o <;> rfl

theorem coilCode_eq (c : CoilState) : coilCode c = codeIn [.idle, .kick, .hold, .rest, .lockout, .fault] c := by
  cases c <;> rfl

theorem kindCode_eq (k : Option FaultKind) : kindCode k = codeIn [none, some .opened, some .short, some .stuck] k := by
  cases k with
  | none => rfl
  | some k => cases k <;> rfl

theorem levelCode_eq (l : HeatLevel) : levelCode l = codeIn [.normal, .warm, .hot] l := by
  cases l <;> rfl

theorem switchCode_eq (l : SwitchLevel) : switchCode l = codeIn [.unsettled, .opened, .closed] l := by
  cases l <;> rfl

theorem originCode_eq (o : Origin) : originCode o = codeIn [.localSwitch, .remoteSwitch, .fireFrame, .service] o := by
  cases o <;> rfl

/-- Note 1 of Table 8-3. -/
theorem drawFlags_eq (s : State) : drawFlags s =
    (if s.faultLine.drive = .safe then 1 else 0) + (if decide (s.link.state = .held) then 2 else 0) +
      (if s.link.degraded then 4 else 0) + (if s.rail.state = .up then 8 else 0) := by
  simp [drawFlags, flagBit]

theorem drawFrameOf_eq (s : State) : drawFrameOf s = drawOfState (reportedDraw s) s := by
  have hbeat : beatInForce s = if decide (s.link.state = .held) then 5 else s.settings.beat := by
    simp [beatInForce]
  rw [drawFrameOf, drawFlags_eq, hbeat]
  rfl

/-- What a DRAW frame carries beside the reported draw is no part of what the re-test changes. -/
theorem drawOfState_congr {u : State} (h : Framed [.sched, .bus] s u) (n : Nat) : drawOfState n u = drawOfState n s := by
  have hlink : u.link = s.link := h.2 .link (by simp)
  have hsettings : u.settings = s.settings := h.2 .settings (by simp)
  have hstart : u.startUp = s.startUp := h.2 .startUp (by simp)
  have hfault : u.faultLine = s.faultLine := h.2 .faultLine (by simp)
  have hrail : u.rail = s.rail := h.2 .rail (by simp)
  simp only [drawOfState, ownNumber, hlink, hsettings, hstart, hfault, hrail]

theorem attemptDraw_eq {u : State} (hretest : retest s = u) (hframe : Framed [.sched, .bus] s u) : attemptDraw s =
    { u with bus := { onWire (drawOfState (reportedDraw u) s) u.bus with drawPending := false } } := by
  rw [attemptDraw, hretest]
  dsimp only
  rw [beginAttempt_eq, drawFrameOf_eq, drawOfState_congr hframe]
  rfl

theorem beginSeriesAttempt_draw {r : Series} (hseries : s.bus.series = some r) (hkind : r.kind = .draw) :
    beginSeriesAttempt s = attemptDraw s := by
  simp only [beginSeriesAttempt, hseries, hkind]

theorem beginSeriesAttempt_switch {r : Series} {sw : SwitchNo} {k : EdgeKind} {seq : BitVec 4} {rest : List GeneralEntry}
    (hseries : s.bus.series = some r) (hkind : r.kind = .switch) (hgeneral : s.bus.general = .switch sw k seq :: rest) :
    beginSeriesAttempt s = beginAttempt (switchFrameOf (ownNumber s) sw k seq) s := by
  simp only [beginSeriesAttempt, hseries, hkind, hgeneral]

theorem beginSeriesAttempt_reply {r : Series} {p : Reply} {rest : List GeneralEntry}
    (hseries : s.bus.series = some r) (hkind : r.kind = .reply) (hgeneral : s.bus.general = .reply p :: rest) :
    beginSeriesAttempt s = attemptReply p s := by
  simp only [beginSeriesAttempt, hseries, hkind, hgeneral]

/-! ### The data of a reply -/

theorem countersData_eq {g : Nat} (hg : g ≤ 2) (s : State) : countersData g s = (List.range 5).flatMap fun i =>
    [byte (s.service.counters.toList.getD (5 * g + i) 0 / 256), byte (s.service.counters.toList.getD (5 * g + i) 0)] := by
  have hgroup : (s.service.counters.toList.drop (5 * g)).take 5 =
      (List.range 5).map fun i => s.service.counters.toList.getD (5 * g + i) 0 := by
    refine List.ext_getElem (by simp; omega) fun i hi hj => ?_
    have hi5 : i < 5 := by simpa using hj
    have hlt : 5 * g + i < s.service.counters.toList.length := by simp; omega
    simp only [List.getElem_take, List.getElem_drop, List.getElem_map, List.getElem_range]
    exact (List.getD_eq_getElem _ _ hlt).symm
  rw [countersData, hgroup, List.flatMap_map]
  rfl

theorem tableData_coil (c : CoilNo) (s : State) : TableData (.coil c) s (coilData c s) := by
  refine ⟨?_, ?_, fun e he => ?_, fun hnone => ?_⟩
  · rw [coilData]
    cases entryOf s c <;> rfl
  · rw [coilData, coilCode_eq, kindCode_eq, levelCode_eq]
    rfl
  · rw [coilData, he, entryData, originCode_eq]
    rfl
  · rw [coilData, hnone]
    show Config.freeByte s.freeIndex &&& 0x36#8 &&& 0xC9#8 = 0
    rw [BitVec.and_assoc]
    exact BitVec.and_zero

theorem tableData_replyData (d : ReplyData) (s : State) : TableData d s (replyData d s) := by
  cases d with
  | fixed l => exact rfl
  | status =>
    show statusData s = _
    rw [statusData, linkCode_eq, railCode_eq, causeCode_eq, outcomeCode_eq]
    rfl
  | events => exact rfl
  | counters g => exact fun hg => countersData_eq hg s
  | peer n =>
    refine ⟨fun hnone => ?_, fun p hp => ?_⟩
    · show peerData n s = _
      rw [peerData, hnone]
      rfl
    · show peerData n s = _
      have hstale : byte (if p.stale then 2 else 1) = if p.stale then 2 else 1 := by cases p.stale <;> rfl
      rw [peerData, hp, ← hstale]
  | coil c => exact tableData_coil c s
  | switch n =>
    show switchData n s = _
    rw [switchData, switchCode_eq]
    rfl

end

theorem sampled_framed (d : ReplyData) (s : State) : Framed [.service, .freeIndex] s (sampled d s) := by
  cases d with
  | events => exact ⟨rfl, fun b hb => by cases b <;> first | rfl | simp at hb⟩
  | coil c =>
    unfold sampled
    dsimp only
    split
    · exact Framed.refl _ s
    · exact ⟨rfl, fun b hb => by cases b <;> first | rfl | simp at hb⟩
  | fixed _ | status | counters _ | peer _ | switch _ => exact Framed.refl _ s

theorem sampled_bus (d : ReplyData) (s : State) : (sampled d s).bus = s.bus := (sampled_framed d s).2 .bus (by simp)

/-- R170: the marks of READ_EVENTS are cleared by its sample alone. -/
theorem sampled_service (d : ReplyData) (s : State) :
    (sampled d s).service = if d = .events then { s.service with raised := 0 } else s.service := by
  cases d with
  | events => rfl
  | coil c =>
    unfold sampled
    dsimp only
    split <;> rfl
  | fixed _ | status | counters _ | peer _ | switch _ => rfl

/-- Settles O56: the draw slot by its re-test (`attemptDraw_eq`), the reply by `tableData_replyData`. -/
theorem attemptBegins : Obligations.AttemptBegins := by
  intro s r hseries hcut hwire hstarted hleft hfragment hidle
  have hover := waitOver_of hseries hcut hwire hstarted hleft hidle
  have hrow : exec .txWaitExpiry s = .next (beginSeriesAttempt (endFragment s)) := congrArg Host.Outcome.next (if_pos hover)
  refine yields_of_eq hrow (congrArg beginSeriesAttempt (endFragment_of_not_due hfragment))
    ⟨fun hkind => ⟨fun hnone => ?_, fun a ha => ⟨fun hfits => ?_, fun hnot => ?_⟩⟩,
      fun sw k seq rest hkind hgeneral => ?_, fun p rest hkind hgeneral => ?_⟩
  · have hretest : retest s = s := by rw [retest, hnone]
    have hreported : reportedDraw s = s.sched.committed := by rw [reportedDraw, hnone]
    rw [beginSeriesAttempt_draw hseries hkind, attemptDraw_eq hretest (Framed.refl _ s), hreported]
  · have hretest : retest s = s.onSched fun q => { q with announce := some { a with carried := true } } := by
      rw [retest, ha]
      exact if_pos hfits
    rw [beginSeriesAttempt_draw hseries hkind, attemptDraw_eq hretest ((onSched_framed _ s).mono (by simp))]
    rfl
  · have hretest : retest s = withdraw s := by
      rw [retest, ha]
      exact if_neg (ne_true_of_eq_false hnot)
    have hreported : reportedDraw (withdraw s) = s.sched.committed := by
      rw [withdraw_eq s ha]
      rfl
    rw [beginSeriesAttempt_draw hseries hkind, attemptDraw_eq hretest (withdraw_framed s), hreported, withdraw_eq s ha]
    rfl
  · have hflag : flagBit 7 (decide (k = .close)) = if k = .close then 128 else 0 := by
      cases k <;> rfl
    rw [beginSeriesAttempt_switch hseries hkind hgeneral, beginAttempt_eq, switchFrameOf, hflag]
  · rw [beginSeriesAttempt_reply hseries hkind hgeneral, attemptReply, beginAttempt_eq]
    refine ⟨⟨replyData p.data s, tableData_replyData p.data s, sampled_bus _ _⟩, sampled_service _ _, ?_⟩
    refine Framed.trans ?_ ((sampled_framed _ _).mono (by simp))
    exact ⟨rfl, fun b hb => by cases b <;> first | rfl | simp at hb⟩

end Sys2Proof.Machine
end


section
/-! The success of an attempt (O57): a completed DRAW at the scheduler, the link unit and the beat, a completed SWITCH, and
a completed reply. -/

namespace Sys2Proof.Machine

/-! ### The end of an attempt that succeeds -/

section
variable {s : State} {r : Series} {w : Wire}

/-- R131, R141: the series has ended, and the station has been heard. -/
def attemptEnded (s : State) : State := heard (endSeries s)

theorem attemptEnded_eq (s : State) : attemptEnded s = { s with
    link := { s.link with silence :=
      if s.link.state = .announced ∨ s.link.state = .armed then some (startTimer (cs (8 * s.settings.beat)))
      else s.link.silence }
    bus := { s.bus with series := none, wire := none, idle := 0 } } := heard_eq _

theorem attemptDone_of (hwire : s.bus.wire = some w) (hdone : w.timer.limit ≤ w.timer.elapsed) :
    attemptDone s = w.clashAt.isNone := by
  have hreached : w.timer.reached = true := decide_eq_true hdone
  rw [attemptDone, hwire]
  dsimp only
  rw [hreached, Bool.true_and]

theorem attemptSucceeds_eq (hseries : s.bus.series = some r) (hwire : s.bus.wire = some w) : attemptSucceeds s =
    match r.kind with
    | .draw => completeDraw w.frame (attemptEnded s)
    | .switch => completeSwitch r.cut (attemptEnded s)
    | .reply => completeReply w.frame (attemptEnded s) := by
  rw [attemptSucceeds, hseries, hwire]
  rfl

/-! ### A completed DRAW at the scheduler -/

theorem startAnnounced_of_not_carried (h : s.sched.announce.all (fun a => !a.carried) = true) : startAnnounced s = s := by
  rw [startAnnounced]
  cases ha : s.sched.announce with
  | none => rfl
  | some a =>
    rw [ha, Option.all_some, Bool.not_eq_true'] at h
    exact if_neg (ne_true_of_eq_false h)

theorem markedIf_congr {u : State} {on : Bool} (hbus : u.bus = s.bus) (hlink : u.link = s.link) :
    markedIf on u = markedIf on s := by
  rw [markedIf, markedIf, hbus, mayMark_of_link hlink]

/-- R40, step 1: the announced kick. -/
def announcedKick (c : CoilNo) (s : State) : State :=
  promptScan (noteDraw s (startKickRaw c (s.onSched fun q => { q with announce := none })))

theorem startAnnounced_of_carried {a : Announce} (ha : s.sched.announce = some a) (hcarried : a.carried = true) :
    startAnnounced s = if eligible s a.coil then announcedKick a.coil s else withdraw s := by
  rw [startAnnounced, ha]
  exact if_pos hcarried

theorem announcedKick_framed (c : CoilNo) (s : State) : Framed [.sched, .coils, .bus, .service] s (announcedKick c s) :=
  ((onSched_framed _ s).mono (by simp)).trans (((startKickRaw_framed c _).mono (by simp)).trans
    (((noteDraw_framed s _).mono (by simp)).trans ((promptScan_framed _).mono (by simp))))

theorem announcedKick_bus (c : CoilNo) (s : State) :
    (announcedKick c s).bus = markedIf (decide (reportedDraw (announcedKick c s) ≠ reportedDraw s)) s := by
  have hraw : Framed [.sched, .coils, .service] s (startKickRaw c (s.onSched fun q => { q with announce := none })) :=
    ((onSched_framed _ s).mono (by simp)).trans ((startKickRaw_framed c _).mono (by simp))
  have hbus := hraw.2 .bus (by simp)
  have hlink := hraw.2 .link (by simp)
  have hreported : reportedDraw (announcedKick c s) =
      reportedDraw (startKickRaw c (s.onSched fun q => { q with announce := none })) := by
    rw [announcedKick, noteDraw_eq]
    rfl
  rw [hreported, announcedKick, noteDraw_eq]
  exact markedIf_congr hbus hlink

/-- R39, R40: what the scheduler does at the completion marks the draw slot exactly where it changes the reported
draw. -/
theorem startAnnounced_bus (s : State) :
    (startAnnounced s).bus = markedIf (decide (reportedDraw (startAnnounced s) ≠ reportedDraw s)) s := by
  have hsame (h : startAnnounced s = s) :
      (startAnnounced s).bus = markedIf (decide (reportedDraw (startAnnounced s) ≠ reportedDraw s)) s := by
    rw [h, decide_eq_false (not_not_intro rfl), markedIf_false]
  cases ha : s.sched.announce with
  | none => exact hsame (startAnnounced_of_not_carried (by rw [ha]; rfl))
  | some a =>
    by_cases hcarried : a.carried = true
    · rw [startAnnounced_of_carried ha hcarried]
      split
      · exact announcedKick_bus a.coil s
      · have hbefore : reportedDraw s = s.sched.committed + a.draw := by rw [reportedDraw, ha]
        have hafter : reportedDraw (withdraw s) = s.sched.committed := by
          rw [withdraw_eq s ha]
          rfl
        have hiff : decide (reportedDraw (withdraw s) ≠ reportedDraw s) = decide (a.draw ≠ 0) :=
          decide_eq_decide.2 (by rw [hbefore, hafter]; omega)
        rw [hiff, withdraw_eq s ha]
    · exact hsame (startAnnounced_of_not_carried (by rw [ha]; simp [hcarried]))

theorem startAnnounced_framed (s : State) : Framed [.sched, .coils, .bus, .service] s (startAnnounced s) := by
  cases ha : s.sched.announce with
  | none =>
    rw [startAnnounced_of_not_carried (by rw [ha]; rfl)]
    exact Framed.refl _ s
  | some a =>
    by_cases hcarried : a.carried = true
    · rw [startAnnounced_of_carried ha hcarried]
      split
      · exact announcedKick_framed a.coil s
      · exact (withdraw_framed s).mono (by simp)
    · rw [startAnnounced_of_not_carried (by rw [ha]; simp [hcarried])]
      exact Framed.refl _ s

theorem mayMark_congr {u : State} (hlink : u.link.state = s.link.state)
    (hwindow : u.link.listenWindow = s.link.listenWindow) : mayMark u = mayMark s := by
  simp only [mayMark, hlink, hwindow]

/-- R40: a completed DRAW at the scheduler: the draw slot is marked where the reported draw has changed, or is not what
the DRAW carried. -/
theorem drawCompleted_bus (rep : Nat) (s : State) : (drawCompleted rep s).bus =
    markedIf (decide (reportedDraw (startAnnounced s) ≠ reportedDraw s) ||
      decide (rep ≠ reportedDraw (startAnnounced s))) s := by
  have hlink : (startAnnounced s).link = s.link := (startAnnounced_framed s).2 .link (by simp)
  rw [← markedIf_markedIf _ (startAnnounced_bus s) hlink, drawCompleted]
  by_cases hrep : rep = reportedDraw (startAnnounced s)
  · rw [if_pos hrep, decide_eq_false (not_not_intro hrep), markedIf_false]
  · rw [if_neg hrep, decide_eq_true hrep, markDraw_eq]

theorem drawCompleted_framed (rep : Nat) (s : State) : Framed [.bus] (startAnnounced s) (drawCompleted rep s) := by
  unfold drawCompleted
  dsimp only
  split
  · exact Framed.refl _ _
  · exact markDraw_framed _

/-! ### A completed DRAW at the link unit -/

/-- R139, R140: the link unit enters ANNOUNCED. -/
abbrev EntersAnnounced (s : State) : Prop := s.link.state = .listen ∧ s.link.listenWindow = none

theorem markedIf_of_mayMark (h : mayMark s = true) : markedIf true s = { s.bus with drawPending := true } := by
  simp only [markedIf, h, Bool.and_self, Bool.or_true]

theorem linkDrawCompleted_of_enters (h : EntersAnnounced s) : linkDrawCompleted s = { s with
    link := { s.link with
      state := .announced, listenWindow := none, announcedTimer := some (startTimer (cs s.settings.beat))
      silence := some (startTimer (cs (8 * s.settings.beat))), abandonCount := 0 }
    bus := { s.bus with drawPending := true }
    sched := { s.sched with scanDue := true } } := by
  have hnot : ¬(s.link.state = .announced ∨ s.link.state = .armed) := by rw [h.1]; decide
  rw [linkDrawCompleted, if_neg hnot, if_pos h, enterAnnounced, noteLink, markDraw_eq,
    markedIf_of_mayMark rfl]
  rfl

theorem linkDrawCompleted_of_not_enters (h : ¬EntersAnnounced s) : linkDrawCompleted s = { s with
    link := { s.link with
      abandonCount := if s.link.state = .announced ∨ s.link.state = .armed then 0 else s.link.abandonCount } } := by
  by_cases hlinked : s.link.state = .announced ∨ s.link.state = .armed
  · rw [linkDrawCompleted, if_pos hlinked, if_pos hlinked]
    rfl
  · rw [linkDrawCompleted, if_neg hlinked, if_neg h, if_neg hlinked]

theorem startBeat_eq (s : State) : startBeat s = { s with bus := { s.bus with
    beatTimer := some (startTimer (cs (if s.link.state = .held then 5 else s.settings.beat))) } } := rfl

theorem reportedDraw_congr {u : State} (hcommitted : u.sched.committed = s.sched.committed)
    (hannounce : u.sched.announce = s.sched.announce) : reportedDraw u = reportedDraw s := by
  simp only [reportedDraw, hcommitted, hannounce]

/-- R139, R140: of the scheduler, the link unit's part of a completed DRAW owes a scan at the entry to ANNOUNCED. -/
theorem linkDrawCompleted_sched (s : State) : (linkDrawCompleted s).sched =
    { s.sched with scanDue := s.sched.scanDue || decide (EntersAnnounced s) } := by
  by_cases h : EntersAnnounced s
  · rw [linkDrawCompleted_of_enters h, decide_eq_true h, Bool.or_true]
  · rw [linkDrawCompleted_of_not_enters h, decide_eq_false h, Bool.or_false]

theorem linkDrawCompleted_bus (s : State) : (linkDrawCompleted s).bus =
    { s.bus with drawPending := s.bus.drawPending || decide (EntersAnnounced s) } := by
  by_cases h : EntersAnnounced s
  · rw [linkDrawCompleted_of_enters h, decide_eq_true h, Bool.or_true]
  · rw [linkDrawCompleted_of_not_enters h, decide_eq_false h, Bool.or_false]

theorem linkDrawCompleted_framed (s : State) : Framed [.link, .bus, .sched] s (linkDrawCompleted s) := by
  by_cases h : EntersAnnounced s
  · rw [linkDrawCompleted_of_enters h]
    exact ⟨rfl, fun b hb => by cases b <;> first | rfl | simp at hb⟩
  · rw [linkDrawCompleted_of_not_enters h]
    exact ⟨rfl, fun b hb => by cases b <;> first | rfl | simp at hb⟩

theorem linkDrawCompleted_held (s : State) : (linkDrawCompleted s).link.state = .held ↔ s.link.state = .held := by
  by_cases h : EntersAnnounced s
  · rw [linkDrawCompleted_of_enters h, h.1]
    simp
  · rw [linkDrawCompleted_of_not_enters h]

/-! ### A completed DRAW, whole -/

section
variable (f : Frame) (s : State)

theorem completeDraw_eq : completeDraw f s =
    startBeat (linkDrawCompleted (drawCompleted (byteAt f.payload 0) s)) := rfl

theorem completeDraw_bus : (completeDraw f s).bus = { s.bus with
    drawPending := s.bus.drawPending ||
      ((decide (reportedDraw (startAnnounced s) ≠ reportedDraw s) ||
        decide (byteAt f.payload 0 ≠ reportedDraw (startAnnounced s))) && mayMark s) || decide (EntersAnnounced s)
    beatTimer := some (startTimer (cs (if s.link.state = .held then 5 else s.settings.beat))) } := by
  have hdraw : Framed [.sched, .coils, .bus, .service] s (drawCompleted (byteAt f.payload 0) s) :=
    (startAnnounced_framed s).trans ((drawCompleted_framed _ s).mono (by simp))
  have hlink : (drawCompleted (byteAt f.payload 0) s).link = s.link := hdraw.2 .link (by simp)
  have hsettings : (linkDrawCompleted (drawCompleted (byteAt f.payload 0) s)).settings = s.settings :=
    ((linkDrawCompleted_framed _).2 .settings (by simp)).trans (hdraw.2 .settings (by simp))
  have henters : EntersAnnounced (drawCompleted (byteAt f.payload 0) s) ↔ EntersAnnounced s := by
    rw [EntersAnnounced, hlink]
  rw [completeDraw_eq, startBeat_eq, linkDrawCompleted_bus, drawCompleted_bus, hsettings]
  simp only [henters, linkDrawCompleted_held, hlink]
  rfl

theorem completeDraw_beat : (completeDraw f s).bus = { s.bus with
    drawPending := (completeDraw f s).bus.drawPending
    beatTimer := some (startTimer (cs (if s.link.state = .held then 5 else s.settings.beat))) } := by
  rw [completeDraw_bus]

theorem completeDraw_sched : (completeDraw f s).sched = { (startAnnounced s).sched with
    scanDue := (startAnnounced s).sched.scanDue || decide (EntersAnnounced s) } := by
  have hdraw : Framed [.sched, .coils, .bus, .service] s (drawCompleted (byteAt f.payload 0) s) :=
    (startAnnounced_framed s).trans ((drawCompleted_framed _ s).mono (by simp))
  have hlink : (drawCompleted (byteAt f.payload 0) s).link = s.link := hdraw.2 .link (by simp)
  have hsched : (drawCompleted (byteAt f.payload 0) s).sched = (startAnnounced s).sched :=
    (drawCompleted_framed _ s).2 .sched (by simp)
  have henters : EntersAnnounced (drawCompleted (byteAt f.payload 0) s) ↔ EntersAnnounced s := by
    rw [EntersAnnounced, hlink]
  rw [completeDraw_eq, startBeat_eq]
  dsimp only
  rw [linkDrawCompleted_sched, hsched]
  simp only [henters]

theorem completeDraw_link : (completeDraw f s).link = (linkDrawCompleted s).link := by
  have hdraw : Framed [.sched, .coils, .bus, .service] s (drawCompleted (byteAt f.payload 0) s) :=
    (startAnnounced_framed s).trans ((drawCompleted_framed _ s).mono (by simp))
  have hlink : (drawCompleted (byteAt f.payload 0) s).link = s.link := hdraw.2 .link (by simp)
  have hsettings : (drawCompleted (byteAt f.payload 0) s).settings = s.settings := hdraw.2 .settings (by simp)
  rw [completeDraw_eq, startBeat_eq]
  dsimp only
  by_cases h : EntersAnnounced s
  · rw [linkDrawCompleted_of_enters h, linkDrawCompleted_of_enters (by rwa [EntersAnnounced, hlink]), hlink, hsettings]
  · rw [linkDrawCompleted_of_not_enters h, linkDrawCompleted_of_not_enters (by rwa [EntersAnnounced, hlink]), hlink]

/-- Of the channels and the service unit, a completed DRAW does what the announced kick does. -/
theorem completeDraw_framed : Framed [.bus, .link, .sched] (startAnnounced s) (completeDraw f s) :=
  ((drawCompleted_framed _ s).mono (by simp)).trans (((linkDrawCompleted_framed _).mono (by simp)).trans
    ((onBus_framed _ _).mono (by simp)))

theorem reportedDraw_completeDraw : reportedDraw (completeDraw f s) = reportedDraw (startAnnounced s) := by
  refine reportedDraw_congr ?_ ?_ <;> rw [completeDraw_sched]

end

/-! ### The announced kick, whole -/

theorem announcedKick_coils (c : CoilNo) (s : State) :
    (announcedKick c s).coils = s.coils.set c (kickedFor s.coils[c] s.settings.coils[c].kickTime) := by
  rw [announcedKick, noteDraw_eq]
  exact startKickRaw_coils

theorem startKickRaw_service (c : CoilNo) (s : State) :
    (startKickRaw c s).service = { s.service with counters := counted 5 s.service.counters } :=
  (moveRaw_framed c _ _).2 .service (by simp)

theorem announcedKick_service (c : CoilNo) (s : State) :
    (announcedKick c s).service = { s.service with counters := counted 5 s.service.counters } := by
  rw [announcedKick, noteDraw_eq]
  exact startKickRaw_service _ _

theorem announcedKick_sched {c : CoilNo} (hidle : s.coils[c].state = .idle) (hcls : s.settings.coils[c].cls ≠ .flipper) :
    (announcedKick c s).sched = { s.sched with
      committed := s.sched.committed + s.settings.coils[c].draw
      queue := pulseTaken c s.sched.queue
      announce := none
      scanDue := true } := by
  have hraw := startKickRaw_sched (s := s.onSched fun q => { q with announce := none }) (c := c) hidle hcls
  rw [announcedKick, noteDraw_eq, hraw]
  rfl

theorem idle_of_eligible {c : CoilNo} (h : eligible s c = true) : s.coils[c].state = .idle := by
  simp only [eligible, Bool.and_eq_true, decide_eq_true_iff] at h
  obtain ⟨⟨-, hidle⟩, -⟩ := h
  exact hidle

/-! ### A completed reply -/

theorem completeReply_of {f : Frame} {p : Reply} (h : s.bus.general.find? isReply = some (.reply p)) : completeReply f s =
    replyCompleted f p (s.onBus fun b => { b with general := b.general.filter fun g => !isReply g }) := by
  rw [completeReply, h]

end

section
variable {f : Frame} {p : Reply} {s : State}

theorem replyCompleted_of_stays (h : p.restart = false) : replyCompleted f p s =
    if p.data = .events then eventsReported (BitVec.ofNat 16 (pairAt f.payload 2)) s else s := by
  rw [replyCompleted, h]
  exact if_neg Bool.false_ne_true

theorem replyCompleted_of_restarts (hdata : p.data ≠ .events) (h : p.restart = true) (hvalid : s.retained.valid = true) :
    replyCompleted f p s = resetTo { s.retained with cause := .serviceRestart } s := by
  rw [replyCompleted, if_neg hdata, h]
  exact if_pos hvalid

end

/-- R133, R139 to R141, R40: the success of an attempt of the draw slot. -/
theorem drawSucceeds (f : Frame) (s : State) :
    let t := completeDraw f (attemptEnded s)
    let idled : Bus := { s.bus with series := none, wire := none, idle := 0 }
    let linked : Prop := s.link.state = .announced ∨ s.link.state = .armed
    let announces : Prop := s.link.state = .listen ∧ s.link.listenWindow = none
    let heardNow : Timer := if linked then some (startTimer (cs (8 * s.settings.beat))) else s.link.silence
    t.bus = { idled with
      drawPending := t.bus.drawPending
      beatTimer := some (startTimer (cs (if s.link.state = .held then 5 else s.settings.beat))) } ∧
    (byteAt f.payload 0 ≠ reportedDraw t → mayMark s = true → t.bus.drawPending = true) ∧
    (announces → t.bus.drawPending = true ∧ t.sched.scanDue = true ∧ t.link = { s.link with
      state := .announced, listenWindow := none, announcedTimer := some (startTimer (cs s.settings.beat))
      silence := some (startTimer (cs (8 * s.settings.beat))), abandonCount := 0 }) ∧
    (¬announces →
      t.link = { s.link with abandonCount := if linked then 0 else s.link.abandonCount, silence := heardNow } ∧
      (byteAt f.payload 0 = reportedDraw t → reportedDraw t = reportedDraw s →
        t.bus.drawPending = s.bus.drawPending)) ∧
    (s.sched.announce.all (fun a => !a.carried) = true → t.coils = s.coils ∧ t.service = s.service ∧
      t.sched = { s.sched with scanDue := s.sched.scanDue || decide announces }) ∧
    (∀ a, s.sched.announce = some a → a.carried = true → eligible s a.coil = true →
      s.settings.coils[a.coil].cls ≠ .flipper →
      t.coils = s.coils.set a.coil (kickedFor s.coils[a.coil] s.settings.coils[a.coil].kickTime) ∧
      t.sched.committed = s.sched.committed + s.settings.coils[a.coil].draw ∧
      t.sched.announce = none ∧ t.sched.scanDue = true ∧
      t.service = { s.service with counters := counted 5 s.service.counters } ∧
      t.sched.queue = pulseTaken a.coil s.sched.queue) ∧
    Framed [.bus, .link, .sched, .coils, .service] s t := by
  intro t idled linked announces heardNow
  have hended := attemptEnded_eq s
  have henters : EntersAnnounced (attemptEnded s) ↔ announces := by rw [hended]
  have hbefore : reportedDraw (attemptEnded s) = reportedDraw s := by rw [hended]; rfl
  have hreported : reportedDraw t = reportedDraw (startAnnounced (attemptEnded s)) := reportedDraw_completeDraw _ _
  have hpending : t.bus.drawPending = (s.bus.drawPending ||
      ((decide (reportedDraw t ≠ reportedDraw s) || decide (byteAt f.payload 0 ≠ reportedDraw t)) && mayMark s) ||
      decide announces) := by
    have hmay : mayMark (attemptEnded s) = mayMark s := by rw [hended]; rfl
    rw [hreported, ← hbefore, ← hmay]
    refine (congrArg Bus.drawPending (completeDraw_bus f (attemptEnded s))).trans ?_
    simp only [henters]
    rw [hended]
  have hbus : t.bus = { idled with
      drawPending := t.bus.drawPending
      beatTimer := some (startTimer (cs (if s.link.state = .held then 5 else s.settings.beat))) } := by
    have hidled : (attemptEnded s).bus = idled := by rw [hended]
    have hstate : (attemptEnded s).link.state = s.link.state := by rw [hended]
    have hsettings : (attemptEnded s).settings = s.settings := by rw [hended]
    refine (completeDraw_beat f (attemptEnded s)).trans ?_
    rw [hidled, hstate, hsettings]
  have hsched : t.sched = { (startAnnounced (attemptEnded s)).sched with
      scanDue := (startAnnounced (attemptEnded s)).sched.scanDue || decide announces } := by
    refine (completeDraw_sched f (attemptEnded s)).trans ?_
    simp only [henters]
  have hlink : t.link = (linkDrawCompleted (attemptEnded s)).link := completeDraw_link _ _
  have hframe : Framed [.bus, .link, .sched] (startAnnounced (attemptEnded s)) t := completeDraw_framed _ _
  have hcoils : t.coils = (startAnnounced (attemptEnded s)).coils := hframe.2 .coils (by simp)
  have hservice : t.service = (startAnnounced (attemptEnded s)).service := hframe.2 .service (by simp)
  refine ⟨hbus, fun hrep hmark => ?_, fun hannounces => ⟨?_, ?_, ?_⟩, fun hnot => ⟨?_, fun hrep hsame => ?_⟩,
    fun hcarried => ?_, fun a ha hcarried heligible hcls => ?_, ?_⟩
  · rw [hpending, decide_eq_true hrep, hmark]
    simp
  · rw [hpending, decide_eq_true hannounces, Bool.or_true]
  · rw [hsched, decide_eq_true hannounces, Bool.or_true]
  · rw [hlink, linkDrawCompleted_of_enters (henters.2 hannounces), hended]
  · rw [hlink, linkDrawCompleted_of_not_enters fun h => hnot (henters.1 h), hended]
  · rw [hpending, decide_eq_false (not_not_intro hrep), decide_eq_false (not_not_intro hsame), decide_eq_false hnot]
    simp
  · have hnone : startAnnounced (attemptEnded s) = attemptEnded s := startAnnounced_of_not_carried (by rwa [hended])
    rw [hcoils, hservice, hsched, hnone, hended]
    exact ⟨rfl, rfl, rfl⟩
  · have hsame : eligible (attemptEnded s) a.coil = eligible s a.coil := by rw [hended]; rfl
    have hkick : startAnnounced (attemptEnded s) = announcedKick a.coil (attemptEnded s) :=
      (startAnnounced_of_carried (by rw [hended]; exact ha) hcarried).trans (if_pos (hsame.trans heligible))
    have hidle := idle_of_eligible (hsame.trans heligible)
    have hnotFlipper : (attemptEnded s).settings.coils[a.coil].cls ≠ .flipper := by rwa [hended]
    rw [hcoils, hservice, hsched, hkick, announcedKick_sched hidle hnotFlipper, announcedKick_coils,
      announcedKick_service, hended]
    exact ⟨rfl, rfl, rfl, rfl, rfl, rfl⟩
  · have hhead : Framed [.bus, .link, .sched, .coils, .service] s (attemptEnded s) := by
      rw [hended]
      exact ⟨rfl, fun b hb => by cases b <;> first | rfl | simp at hb⟩
    exact hhead.trans (((startAnnounced_framed _).mono (by simp)).trans (hframe.mono (by simp)))

/-- Settles O57: the end of the attempt (`attemptEnded_eq`); then the completed DRAW block by block (`completeDraw_bus`,
`completeDraw_sched`, `completeDraw_link`), the SWITCH entry, or the reply. -/
theorem attemptSucceeds_holds : Obligations.AttemptSucceeds := by
  intro s r w hseries hwire hdone
  have hdue := attemptDone_of hwire hdone
  refine ⟨fun hclash => ?_, fun hclash => ?_⟩
  · have hnot : attemptDone s = false := by
      rw [hdue]
      exact Option.isNone_eq_false_iff.2 (Option.isSome_iff_ne_none.2 hclash)
    exact congrArg Host.Outcome.next (if_neg (ne_true_of_eq_false hnot))
  · have hrow : exec .txAttemptSuccess s = .next (attemptSucceeds s) :=
      congrArg Host.Outcome.next (if_pos (by rw [hdue, hclash]; rfl))
    refine yields_of_eq hrow (attemptSucceeds_eq hseries hwire) ?_
    have hended := attemptEnded_eq s
    refine ⟨fun hkind => ?_, fun hkind => ?_, fun p hkind hreply => ⟨fun hstays => ?_, fun hrestart hvalid hdata => ?_⟩⟩
    · rw [hkind]
      exact drawSucceeds w.frame s
    · rw [hkind]
      show completeSwitch r.cut (attemptEnded s) = _
      rw [hended]
      cases hcut : r.cut <;> rfl
    · rw [hkind]
      refine (completeReply_of (by rw [hended]; exact hreply)).trans ?_
      rw [replyCompleted_of_stays hstays, hended]
      by_cases hevents : p.data = .events
      · rw [if_pos hevents, if_pos hevents]
        rfl
      · rw [if_neg hevents, if_neg hevents]
        rfl
    · rw [hkind]
      show ResetFrom s (completeReply w.frame (attemptEnded s)) ∧ (completeReply w.frame (attemptEnded s)).retained = _
      rw [completeReply_of (s := attemptEnded s) (by rw [hended]; exact hreply),
        replyCompleted_of_restarts hdata hrestart (by rw [hended]; exact hvalid), hended]
      exact ⟨rfl, rfl⟩

end Sys2Proof.Machine
end


section
/-! One interval of the thermal unit (O42): the turn of one channel, whole, and the run of the sixteen turns, of which each
reads and changes what is its channel's own. -/

namespace Sys2Proof.Machine

/-! ### An entry to LOCKOUT -/

section
variable {c : CoilNo} {s : State}

/-- R63: the off-current timer at an entry to LOCKOUT. -/
def lockoutOff (ch : CoilChannel) (sense : Sense) : Timer :=
  if commandedOn ch.state then (if sense = .none then none else some (startTimer (ms 5))) else ch.offTimer

theorem offTimed_lockout (ch : CoilChannel) (sense : Sense) :
    offTimed ch (ch.stopped .lockout) sense = quiet ch .lockout (lockoutOff ch sense) := by
  have hnot : decide ((ch.stopped .lockout).state = .idle) = false := rfl
  rw [offTimed, offTimerAfter, hnot, Bool.and_false, Bool.or_false]
  rfl

theorem offTimed_released {ch : CoilChannel} (sense : Sense) (h : ch.state = .lockout) :
    offTimed ch (ch.stopped .idle) sense = quiet ch .idle ch.offTimer := by
  rw [offTimed_of_off (by rw [h]; rfl) (by rw [h]; decide) rfl]
  rfl

/-- R59, R72, R15: an entry to LOCKOUT, whole. -/
theorem enterLockout_eq (c : CoilNo) (s : State) : enterLockout c s = { s with
    coils := s.coils.set c (quiet s.coils[c] .lockout (lockoutOff s.coils[c] s.pins.sense[c]))
    sched := if (entryOf s c).isSome then withoutEntry c (s.sched.withCommitted (committedWithout c s))
      else s.sched.withCommitted (committedWithout c s)
    bus := markedIf (decide (committedWithout c s ≠ s.sched.committed) ||
      ((entryOf s c).isSome && announced c s.sched)) s
    service := { events := s.service.events ||| 4#16, raised := s.service.raised ||| 4#16
                 counters := if (entryOf s c).isSome then counted 9 s.service.counters else s.service.counters } } := by
  have hmoved : moveChannel c (s.coils[c].stopped .lockout) s =
      channelMoved c (quiet s.coils[c] .lockout (lockoutOff s.coils[c] s.pins.sense[c])) (committedWithout c s) s := by
    rw [moveChannel_eq _ _ _ (not_returnsToIdle (CoilState.noConfusion : CoilState.lockout ≠ .idle)),
      committedAfter_of_off rfl, offTimed_lockout]
    rfl
  have hentry : entryOf (channelMoved c (quiet s.coils[c] .lockout (lockoutOff s.coils[c] s.pins.sense[c]))
      (committedWithout c s) s) c = entryOf s c := rfl
  rw [enterLockout, hmoved, removeCounted, hentry]
  cases (entryOf s c).isSome
  · rw [if_neg Bool.false_ne_true, if_neg Bool.false_ne_true, if_neg Bool.false_ne_true, Bool.false_and, Bool.or_false]
    rfl
  · have hbus : markedIf (announced c s.sched) (channelMoved c
          (quiet s.coils[c] .lockout (lockoutOff s.coils[c] s.pins.sense[c])) (committedWithout c s) s) =
        markedIf (decide (committedWithout c s ≠ s.sched.committed) || announced c s.sched) s :=
      markedIf_markedIf _ rfl rfl
    rw [if_pos rfl, if_pos rfl, if_pos rfl, Bool.true_and, removeEntry_eq, ← hbus]
    rfl

/-! ### The turn of one channel -/

/-- R73: channel `c` leaves LOCKOUT at this interval. -/
abbrev Frees (c : CoilNo) (s : State) : Prop :=
  s.coils[c].state = .lockout ∧ heatNext c s ≤ s.settings.coils[c].trip / 2

/-- R15: the entry to LOCKOUT of channel `c` removes a queue entry. -/
def losesEntry (c : CoilNo) (s : State) : Bool := decide (LocksOut c s) && (entryOf s c).isSome

/-- R23: what the entry to LOCKOUT of channel `c` takes from D_own. -/
def lostDraw (c : CoilNo) (s : State) : Nat := if LocksOut c s then drawOf s.settings.coils[c] s.coils[c] else 0

theorem heatNext_eq (c : CoilNo) (s : State) :
    heatNext c s = heatedAfter s.settings.coils[c] s.coils[c] s.retained.heat[c] := rfl

theorem lockable_iff {st : CoilState} : lockable st = true ↔ st ≠ .lockout ∧ st ≠ .fault := by
  cases st <;> simp [lockable]

/-- A channel's own part of the heat, and a scan that a T that crosses trip may owe. -/
def heatedTo (v : Vector Nat 16) (crosses : Bool) (s : State) : State := { s with
  retained := { s.retained with heat := v }
  sched := { s.sched with scanDue := s.sched.scanDue || crosses } }

/-- R70, R71: the state once channel `c` has cooled and heated; a T that crosses trip owes a scan. -/
theorem heatChannel_eq (c : CoilNo) (s : State) : ∃ crosses : Bool, heatChannel c s =
    heatedTo (s.retained.heat.set c (heatNext c s)) crosses s := by
  unfold heatChannel
  dsimp only
  split
  · exact ⟨false, by rw [heatedTo, Bool.or_false]; rfl⟩
  · exact ⟨true, by rw [heatedTo, Bool.or_true]; rfl⟩

/-- What the turn of channel `c` does to the channel, the scheduler, the bus and the service unit. -/
structure Classified (c : CoilNo) (s t : State) : Prop where
  frame : Framed [.retained, .coils, .sched, .bus, .service] s t
  other (d : CoilNo) : d ≠ c → t.coils[d] = s.coils[d]
  locked : LocksOut c s → t.coils[c] = quiet s.coils[c] .lockout (lockoutOff s.coils[c] s.pins.sense[c])
  freed : Frees c s → t.coils[c] = quiet s.coils[c] .idle s.coils[c].offTimer
  plain : ¬LocksOut c s → ¬Frees c s → t.coils[c] = s.coils[c]
  committed : t.sched.committed = s.sched.committed - lostDraw c s
  queue : t.sched.queue = s.sched.queue.filter fun e => decide ¬(e.coil = c ∧ LocksOut c s)
  announce : t.sched.announce =
    if losesEntry c s = true ∧ s.sched.announce.map Announce.coil = some c then none else s.sched.announce
  scanDue : s.sched.scanDue = true ∨ losesEntry c s = true ∨ t.sched.committed ≠ s.sched.committed ∨ Frees c s →
    t.sched.scanDue = true
  bus : t.bus = markedIf (decide (t.sched.committed ≠ s.sched.committed) || (losesEntry c s && announced c s.sched)) s
  service : t.service = if LocksOut c s then
      { events := s.service.events ||| 4#16, raised := s.service.raised ||| 4#16
        counters := if losesEntry c s then counted 9 s.service.counters else s.service.counters }
    else s.service

/-! The scheduler at an entry to LOCKOUT, with an entry to remove or without one. -/

section
variable (c : CoilNo) (b : Bool) (q : Scheduler)

theorem committed_ite_withoutEntry : (if b then withoutEntry c q else q).committed = q.committed := by
  cases b <;> rfl

theorem queue_ite_withoutEntry (h : b = false → ∀ e ∈ q.queue, e.coil ≠ c) :
    (if b then withoutEntry c q else q).queue = q.queue.filter fun e => decide (e.coil ≠ c) := by
  cases b
  · exact (List.filter_eq_self.2 fun e he => decide_eq_true (h rfl e he)).symm
  · rfl

theorem announce_ite_withoutEntry : (if b then withoutEntry c q else q).announce =
    if b = true ∧ q.announce.map Announce.coil = some c then none else q.announce := by
  cases b
  · exact (if_neg fun h => Bool.false_ne_true h.1).symm
  · exact if_congr (and_iff_right rfl).symm rfl rfl

theorem scanDue_withCommitted {n : Nat} (h : q.scanDue = true ∨ n ≠ q.committed) : (q.withCommitted n).scanDue = true := by
  rw [Scheduler.withCommitted, Bool.or_eq_true, decide_eq_true_iff]
  exact h

theorem scanDue_ite_withoutEntry (h : b = true ∨ q.scanDue = true) :
    (if b then withoutEntry c q else q).scanDue = true := by
  cases b
  · exact h.resolve_left Bool.false_ne_true
  · rfl

end

theorem classified_of_locks (hlocks : LocksOut c s) (v : Vector Nat 16) (crosses : Bool) :
    Classified c s (enterLockout c (heatedTo v crosses s)) := by
  have hnotFrees : ¬Frees c s := fun h => hlocks.2.2.1 h.1
  have hloses : losesEntry c s = (entryOf s c).isSome := by rw [losesEntry, decide_eq_true hlocks, Bool.true_and]
  have hlost : committedWithout c (heatedTo v crosses s) = s.sched.committed - lostDraw c s := by
    rw [lostDraw, if_pos hlocks]
    rfl
  have hentry : entryOf (heatedTo v crosses s) c = entryOf s c := rfl
  have hcommitted : (enterLockout c (heatedTo v crosses s)).sched.committed = s.sched.committed - lostDraw c s := by
    rw [enterLockout_eq]
    exact (committed_ite_withoutEntry ..).trans hlost
  refine ⟨?_, fun d hd => ?_, fun _ => ?_, fun h => absurd h hnotFrees, fun h => absurd hlocks h, hcommitted, ?_, ?_,
    fun h => ?_, ?_, ?_⟩
  · rw [enterLockout_eq]
    exact ⟨rfl, fun b hb => by cases b <;> first | rfl | simp at hb⟩
  · rw [enterLockout_eq]
    exact Vector.getElem_set_ne c.isLt d.isLt fun hval => hd (Fin.ext hval.symm)
  · rw [enterLockout_eq]
    exact Vector.getElem_set_self _
  · rw [enterLockout_eq, hentry]
    refine (queue_ite_withoutEntry c _ _ fun hnone e he => ?_).trans ?_
    · exact entryOf_eq_none.1 (Option.isSome_eq_false_iff.1 hnone |> Option.isNone_iff_eq_none.1) e he
    · exact List.filter_congr fun e _ => decide_eq_decide.2 (not_congr (and_iff_left hlocks).symm)
  · rw [enterLockout_eq, hentry, hloses]
    exact announce_ite_withoutEntry ..
  · rw [hcommitted] at h
    rw [enterLockout_eq, hentry]
    refine scanDue_ite_withoutEntry _ _ _ ?_
    rcases h with h | h | h | h
    · exact .inr (scanDue_withCommitted _ (.inl (by simp only [heatedTo, h, Bool.true_or])))
    · exact .inl (hloses.symm.trans h)
    · exact .inr (scanDue_withCommitted _ (.inr (by rwa [hlost])))
    · exact absurd h hnotFrees
  · rw [hcommitted, hloses, ← hlost, enterLockout_eq, hentry]
    rfl
  · rw [if_pos hlocks, enterLockout_eq, hentry, hloses]
    rfl

theorem classified_of_frees (hfrees : Frees c s) (v : Vector Nat 16) (crosses : Bool) :
    Classified c s (moveChannel c (s.coils[c].stopped .idle) (heatedTo v crosses s)) := by
  have hnotLocks : ¬LocksOut c s := fun h => h.2.2.1 hfrees.1
  have hloses : losesEntry c s = false := by rw [losesEntry, decide_eq_false hnotLocks, Bool.false_and]
  have hlost : lostDraw c s = 0 := if_neg hnotLocks
  have hmoved : moveChannel c (s.coils[c].stopped .idle) (heatedTo v crosses s) =
      scanOwed { heatedTo v crosses s with coils := s.coils.set c (quiet s.coils[c] .idle s.coils[c].offTimer) } := by
    have hreturn : ReturnsToIdle (heatedTo v crosses s).coils[c].state (s.coils[c].stopped .idle).state :=
      ⟨rfl, .inr (.inl hfrees.1)⟩
    rw [moveChannel_of_return _ _ _ hreturn, ← offTimed_released s.pins.sense[c] hfrees.1]
    rfl
  rw [hmoved]
  refine ⟨⟨rfl, fun b hb => by cases b <;> first | rfl | simp at hb⟩, fun d hd => ?_, fun h => absurd h hnotLocks,
    fun _ => Vector.getElem_set_self _, fun _ h => absurd hfrees h, by rw [hlost]; rfl, ?_, ?_, fun _ => rfl, ?_, ?_⟩
  · exact Vector.getElem_set_ne c.isLt d.isLt fun hval => hd (Fin.ext hval.symm)
  · exact (List.filter_eq_self.2 fun e _ => decide_eq_true (p := ¬(e.coil = c ∧ LocksOut c s)) fun h => hnotLocks h.2).symm
  · exact (if_neg fun h => Bool.false_ne_true (hloses.symm.trans h.1)).symm
  · rw [hloses, Bool.false_and, Bool.or_false]
    exact ((congrArg (markedIf · s) (decide_eq_false (not_not_intro rfl))).trans (markedIf_false s)).symm
  · exact (if_neg hnotLocks).symm

theorem classified_of_neither (hlocks : ¬LocksOut c s) (hfrees : ¬Frees c s) (v : Vector Nat 16) (crosses : Bool) :
    Classified c s (heatedTo v crosses s) := by
  have hloses : losesEntry c s = false := by rw [losesEntry, decide_eq_false hlocks, Bool.false_and]
  have hlost : lostDraw c s = 0 := if_neg hlocks
  refine ⟨⟨rfl, fun b hb => by cases b <;> first | rfl | simp at hb⟩, fun d hd => rfl, fun h => absurd h hlocks,
    fun h => absurd h hfrees, fun _ _ => rfl, by rw [hlost]; rfl, ?_, ?_, fun h => ?_, ?_, ?_⟩
  · exact (List.filter_eq_self.2 fun e _ => decide_eq_true (p := ¬(e.coil = c ∧ LocksOut c s)) fun h => hlocks h.2).symm
  · exact (if_neg fun h => Bool.false_ne_true (hloses.symm.trans h.1)).symm
  · rcases h with h | h | h | h
    · show (s.sched.scanDue || crosses) = true
      rw [h, Bool.true_or]
    · exact nomatch hloses.symm.trans h
    · exact absurd rfl h
    · exact absurd h hfrees
  · rw [hloses, Bool.false_and, Bool.or_false]
    exact ((congrArg (markedIf · s) (decide_eq_false (not_not_intro rfl))).trans (markedIf_false s)).symm
  · exact (if_neg hlocks).symm

theorem heatedTo_heat (n : Nat) (crosses : Bool) : (heatedTo (s.retained.heat.set c n) crosses s).retained.heat[c] = n :=
  Vector.getElem_set_self _

/-- R72: the condition of an entry to LOCKOUT, once the channel has cooled and heated. -/
theorem locksOut_iff : LocksOut c s ↔ s.settings.coils[c].cls ≠ .flipper ∧
    (keptAtTrip c s = true ∨ s.settings.coils[c].trip ≤ heatNext c s) ∧ lockable s.coils[c].state = true := by
  rw [keptAtTrip, Bool.and_eq_true, decide_eq_true_iff, lockable_iff, or_comm (b := _ ≤ heatNext c s)]

theorem classifyLockout_heatedTo (crosses : Bool) :
    classifyLockout (keptAtTrip c s) c (heatedTo (s.retained.heat.set c (heatNext c s)) crosses s) =
      if LocksOut c s then enterLockout c (heatedTo (s.retained.heat.set c (heatNext c s)) crosses s)
      else if Frees c s then
        moveChannel c (s.coils[c].stopped .idle) (heatedTo (s.retained.heat.set c (heatNext c s)) crosses s)
      else heatedTo (s.retained.heat.set c (heatNext c s)) crosses s := by
  have hheat := heatedTo_heat (c := c) (s := s) (heatNext c s) crosses
  unfold classifyLockout
  dsimp only
  rw [hheat]
  exact if_congr (locksOut_iff (c := c) (s := s)).symm rfl rfl

/-- R72, R73: the lockout part of a channel's turn. -/
theorem classified_classifyLockout (c : CoilNo) (s : State) :
    (classifyLockout (keptAtTrip c s) c (heatChannel c s)).retained =
      { s.retained with heat := s.retained.heat.set c (heatNext c s) } ∧
    Classified c s (classifyLockout (keptAtTrip c s) c (heatChannel c s)) := by
  obtain ⟨crosses, hheated⟩ := heatChannel_eq c s
  have hretained := (classifyLockout_framed (keptAtTrip c s) c (heatChannel c s)).2 .retained (by simp)
  refine ⟨hretained.trans (congrArg State.retained hheated), ?_⟩
  rw [hheated, classifyLockout_heatedTo]
  by_cases hlocks : LocksOut c s
  · rw [if_pos hlocks]
    exact classified_of_locks hlocks _ crosses
  · rw [if_neg hlocks]
    by_cases hfrees : Frees c s
    · rw [if_pos hfrees]
      exact classified_of_frees hfrees _ crosses
    · rw [if_neg hfrees]
      exact classified_of_neither hlocks hfrees _ crosses

end

/-! ### The level -/

section
variable (c : CoilNo) (s : State)

/-- R76: the heat level of channel `c` by its T as it stands. -/
def levelNow : HeatLevel := heatLevel s.settings.coils[c].trip s.retained.heat[c]

theorem classifyLevel_eq : classifyLevel c s = if s.thermal.levels[c] = levelNow c s then s
    else rechooseDuty c (s.onThermal fun t => { t with levels := t.levels.set c (levelNow c s) }) := rfl

theorem classifyLevel_thermal : (classifyLevel c s).thermal =
    { s.thermal with levels := s.thermal.levels.set c (levelNow c s) } := by
  rw [classifyLevel_eq]
  split
  next hsame =>
    rw [← hsame]
    exact congrArg (fun v => { s.thermal with levels := v }) (Vector.set_getElem_self _).symm
  next => exact (rechooseDuty_framed c _).2 .thermal (by simp)

theorem classifyLevel_other {d : CoilNo} (h : d ≠ c) : (classifyLevel c s).coils[d] = s.coils[d] := by
  rw [classifyLevel_eq]
  split
  · rfl
  · exact rechooseDuty_other d _ h

/-- R53, R76: a change of level gives a FLIPPER channel in HOLD a new duty. -/
theorem classifyLevel_coil : (classifyLevel c s).coils[c] = { s.coils[c] with
    duty := if s.settings.coils[c].cls = .flipper ∧ s.coils[c].state = .hold ∧ levelNow c s ≠ s.thermal.levels[c]
      then some (smallestDuty s.settings.coils[c].duty (levelNow c s) s.rail.state) else s.coils[c].duty } := by
  rw [classifyLevel_eq]
  by_cases hsame : s.thermal.levels[c] = levelNow c s
  · rw [if_pos hsame, if_neg fun h => h.2.2 hsame.symm]
  · have hlevel : (s.thermal.levels.set c (levelNow c s))[c] = levelNow c s := Vector.getElem_set_self _
    rw [if_neg hsame]
    refine (rechooseDuty_coil c _).trans (congrArg (fun d => { s.coils[c] with duty := d }) ?_)
    refine if_congr ⟨fun h => ⟨h.1, h.2, fun hlevel => hsame hlevel.symm⟩, fun h => ⟨h.1, h.2.1⟩⟩ ?_ rfl
    exact congrArg (fun l => some (smallestDuty s.settings.coils[c].duty l s.rail.state)) hlevel

theorem classifyLevel_coil_of_off (h : s.coils[c].state ≠ .hold) : (classifyLevel c s).coils[c] = s.coils[c] := by
  rw [classifyLevel_coil, if_neg fun hhold => h hhold.2.1]

end

/-! ### The turn of one channel, whole -/

/-- What the turn of channel `c` does, whole. -/
structure ThermalTurn (c : CoilNo) (s t : State) : Prop where
  frame : Framed [.retained, .thermal, .coils, .sched, .bus, .service] s t
  retained : t.retained = { s.retained with heat := s.retained.heat.set c (heatNext c s) }
  thermal : t.thermal = { s.thermal with
    levels := s.thermal.levels.set c (heatLevel s.settings.coils[c].trip (heatNext c s)) }
  other (d : CoilNo) : d ≠ c → t.coils[d] = s.coils[d]
  locked : LocksOut c s → t.coils[c] = quiet s.coils[c] .lockout (lockoutOff s.coils[c] s.pins.sense[c])
  freed : Frees c s → t.coils[c] = quiet s.coils[c] .idle s.coils[c].offTimer
  plain : ¬LocksOut c s → ¬Frees c s → t.coils[c] = { s.coils[c] with
    duty := if s.settings.coils[c].cls = .flipper ∧ s.coils[c].state = .hold ∧
        heatLevel s.settings.coils[c].trip (heatNext c s) ≠ s.thermal.levels[c]
      then some (smallestDuty s.settings.coils[c].duty (heatLevel s.settings.coils[c].trip (heatNext c s)) s.rail.state)
      else s.coils[c].duty }
  taken : ∃ k, Classified c s k ∧ t.sched = k.sched ∧ t.bus = k.bus ∧ t.service = k.service

theorem thermalTurn_thermalChannel (c : CoilNo) (s : State) : ThermalTurn c s (thermalChannel c s) := by
  obtain ⟨hretained, hclassified⟩ := classified_classifyLockout c s
  have hthermal : (classifyLockout (keptAtTrip c s) c (heatChannel c s)).thermal = s.thermal :=
    hclassified.frame.2 .thermal (by simp)
  have hsettings : (classifyLockout (keptAtTrip c s) c (heatChannel c s)).settings = s.settings :=
    hclassified.frame.2 .settings (by simp)
  have hrail : (classifyLockout (keptAtTrip c s) c (heatChannel c s)).rail = s.rail :=
    hclassified.frame.2 .rail (by simp)
  rw [thermalChannel]
  generalize classifyLockout (keptAtTrip c s) c (heatChannel c s) = k at *
  have hlevel : levelNow c k = heatLevel s.settings.coils[c].trip (heatNext c s) := by
    rw [levelNow, hsettings, hretained]
    exact congrArg (heatLevel _) (Vector.getElem_set_self _)
  have hframe := classifyLevel_framed c k
  refine ⟨(hclassified.frame.mono (by simp)).trans (hframe.mono (by simp)),
    (hframe.2 .retained (by simp)).trans hretained, ?_, fun d hd => ?_, fun hlocks => ?_, fun hfrees => ?_,
    fun hlocks hfrees => ?_, ⟨k, hclassified, hframe.2 .sched (by simp), hframe.2 .bus (by simp),
      hframe.2 .service (by simp)⟩⟩
  · rw [classifyLevel_thermal, hlevel, hthermal]
  · exact (classifyLevel_other c k hd).trans (hclassified.other d hd)
  · have hcoil := hclassified.locked hlocks
    rw [classifyLevel_coil_of_off c k (by rw [hcoil]; exact CoilState.noConfusion), hcoil]
  · have hcoil := hclassified.freed hfrees
    rw [classifyLevel_coil_of_off c k (by rw [hcoil]; exact CoilState.noConfusion), hcoil]
  · rw [classifyLevel_coil, hclassified.plain hlocks hfrees, hlevel, hsettings, hthermal, hrail]

/-! ### The run of the turns -/

section
variable {c : CoilNo} {s u t : State} {cs : List CoilNo}

/-- What the turn of a channel leaves the channel with. -/
structure ChannelTurned (c : CoilNo) (s t : State) : Prop where
  heat : t.retained.heat[c] = heatNext c s
  level : t.thermal.levels[c] = heatLevel s.settings.coils[c].trip (heatNext c s)
  locked : LocksOut c s → t.coils[c] = quiet s.coils[c] .lockout (lockoutOff s.coils[c] s.pins.sense[c])
  freed : Frees c s → t.coils[c] = quiet s.coils[c] .idle s.coils[c].offTimer
  plain : ¬LocksOut c s → ¬Frees c s → t.coils[c] = { s.coils[c] with
    duty := if s.settings.coils[c].cls = .flipper ∧ s.coils[c].state = .hold ∧
        heatLevel s.settings.coils[c].trip (heatNext c s) ≠ s.thermal.levels[c]
      then some (smallestDuty s.settings.coils[c].duty (heatLevel s.settings.coils[c].trip (heatNext c s)) s.rail.state)
      else s.coils[c].duty }

theorem ThermalTurn.turned (h : ThermalTurn c s t) : ChannelTurned c s t := by
  refine ⟨?_, ?_, h.locked, h.freed, h.plain⟩
  · rw [h.retained]
    exact Vector.getElem_set_self _
  · rw [h.thermal]
    exact Vector.getElem_set_self _

/-- What channel `c` has of its own is as it was. -/
structure Untouched (c : CoilNo) (s u : State) : Prop where
  coil : u.coils[c] = s.coils[c]
  heat : u.retained.heat[c] = s.retained.heat[c]
  level : u.thermal.levels[c] = s.thermal.levels[c]

theorem Untouched.trans (h : Untouched c s u) (h' : Untouched c u t) : Untouched c s t :=
  ⟨h'.coil.trans h.coil, h'.heat.trans h.heat, h'.level.trans h.level⟩

theorem ThermalTurn.untouched (h : ThermalTurn c s t) {d : CoilNo} (hd : d ≠ c) : Untouched d s t := by
  refine ⟨h.other d hd, ?_, ?_⟩
  · rw [h.retained]
    exact Vector.getElem_set_ne c.isLt d.isLt fun hval => hd (Fin.ext hval.symm)
  · rw [h.thermal]
    exact Vector.getElem_set_ne c.isLt d.isLt fun hval => hd (Fin.ext hval.symm)

theorem ChannelTurned.of_untouched (h : ChannelTurned c s u) (h' : Untouched c u t) : ChannelTurned c s t :=
  ⟨h'.heat.trans h.heat, h'.level.trans h.level, fun hl => h'.coil.trans (h.locked hl),
    fun hf => h'.coil.trans (h.freed hf), fun hl hf => h'.coil.trans (h.plain hl hf)⟩

theorem heatNext_congr (h : Untouched c s u) (hsettings : u.settings = s.settings) : heatNext c u = heatNext c s := by
  rw [heatNext_eq, heatNext_eq, h.coil, h.heat, hsettings]

theorem locksOut_congr (h : Untouched c s u) (hsettings : u.settings = s.settings)
    (hfirst : u.thermal.firstInterval = s.thermal.firstInterval) : LocksOut c u ↔ LocksOut c s := by
  rw [LocksOut, heatNext_congr h hsettings, h.coil, h.heat, hsettings, hfirst]

theorem frees_congr (h : Untouched c s u) (hsettings : u.settings = s.settings) : Frees c u ↔ Frees c s := by
  rw [Frees, heatNext_congr h hsettings, h.coil, hsettings]

/-- The queue entries that the turns of the channels `cs` remove, by coil. -/
def entriesLost (cs : List CoilNo) (s : State) : List CoilNo := cs.filter fun c => losesEntry c s

theorem entriesLost_append (cs : List CoilNo) (c : CoilNo) (s : State) :
    entriesLost (cs ++ [c]) s = entriesLost cs s ++ if losesEntry c s then [c] else [] := by
  rw [entriesLost, List.filter_append, entriesLost, List.filter_cons, List.filter_nil]

/-- Counter `i` after `n` counts. -/
def countedTimes (i : Fin 15) (n : Nat) (v : Vector Nat 15) : Vector Nat 15 :=
  if n = 0 then v else v.set i (min (v[i] + n) 65535)

theorem counted_countedTimes (i : Fin 15) (n : Nat) (v : Vector Nat 15) :
    counted i (countedTimes i n v) = countedTimes i (n + 1) v := by
  rw [countedTimes, countedTimes, if_neg (Nat.succ_ne_zero n), counted]
  by_cases hzero : n = 0
  · rw [if_pos hzero, hzero]
  · have hself : (v.set i (min (v[i] + n) 65535))[i] = min (v[i] + n) 65535 := Vector.getElem_set_self _
    have hcount : min (min (v[i] + n) 65535 + 1) 65535 = min (v[i] + (n + 1)) 65535 := by omega
    rw [if_neg hzero, hself, hcount, Vector.set_set]

/-- R38: the announce record once the entries of the coils `l` have gone. -/
def announceAfter (l : List CoilNo) (a : Option Announce) : Option Announce :=
  if l.any fun c => decide (a.map Announce.coil = some c) then none else a

theorem announceAfter_append (l : List CoilNo) (c : CoilNo) (loses : Bool) (a : Option Announce) :
    announceAfter (l ++ if loses then [c] else []) a =
      if loses = true ∧ (announceAfter l a).map Announce.coil = some c then none else announceAfter l a := by
  rw [announceAfter, announceAfter]
  cases loses
  · rw [if_neg Bool.false_ne_true, List.append_nil, if_neg fun h : _ ∧ _ => Bool.false_ne_true h.1]
  · rw [if_pos rfl, List.any_append, List.any_cons, List.any_nil, Bool.or_false]
    cases l.any fun c => decide (a.map Announce.coil = some c)
    · simp only [Bool.false_or, decide_eq_true_iff, Bool.false_eq_true, if_false, true_and]
    · simp only [Bool.true_or, if_true, Option.map_none, reduceCtorEq, and_false, if_false]

theorem announced_eq_true {q : Scheduler} : announced c q = true ↔ ∃ a, q.announce = some a ∧ a.coil = c ∧ a.draw ≠ 0 := by
  rw [announced]
  cases q.announce <;> simp

/-- An announce that the entries of `l` have ended is counted with them. -/
theorem any_or_announced {q r : Scheduler} {l : List CoilNo} (h : r.announce = announceAfter l q.announce) :
    ((l.any fun d => announced d q) || announced c r) = ((l.any fun d => announced d q) || announced c q) := by
  by_cases hended : (l.any fun d => decide (q.announce.map Announce.coil = some d)) = true
  · have hr : announced c r = false := by rw [announced, h, announceAfter, if_pos hended]
    rw [hr, Bool.or_false, Bool.eq_iff_iff, Bool.or_eq_true]
    refine ⟨.inl, fun hany => hany.elim id fun hc => ?_⟩
    obtain ⟨a, ha, -, hdraw⟩ := announced_eq_true.1 hc
    obtain ⟨d, hd, hcoil⟩ := List.any_eq_true.1 hended
    rw [decide_eq_true_iff, ha, Option.map_some, Option.some.injEq] at hcoil
    exact List.any_eq_true.2 ⟨d, hd, announced_eq_true.2 ⟨a, ha, hcoil, hdraw⟩⟩
  · rw [announced, h, announceAfter, if_neg hended, announced]

/-! The shared blocks after one turn. -/

namespace ThermalTurn

theorem committed (h : ThermalTurn c s t) : t.sched.committed = s.sched.committed - lostDraw c s := by
  obtain ⟨k, hk, hsched, -, -⟩ := h.taken
  exact hsched ▸ hk.committed

theorem queue (h : ThermalTurn c s t) :
    t.sched.queue = s.sched.queue.filter fun e => decide ¬(e.coil = c ∧ LocksOut c s) := by
  obtain ⟨k, hk, hsched, -, -⟩ := h.taken
  exact hsched ▸ hk.queue

theorem announce (h : ThermalTurn c s t) : t.sched.announce =
    if losesEntry c s = true ∧ s.sched.announce.map Announce.coil = some c then none else s.sched.announce := by
  obtain ⟨k, hk, hsched, -, -⟩ := h.taken
  exact hsched ▸ hk.announce

theorem scanDue (h : ThermalTurn c s t) (hprompt : s.sched.scanDue = true ∨ losesEntry c s = true ∨
    t.sched.committed ≠ s.sched.committed ∨ Frees c s) : t.sched.scanDue = true := by
  obtain ⟨k, hk, hsched, -, -⟩ := h.taken
  rw [hsched] at hprompt ⊢
  exact hk.scanDue hprompt

theorem bus (h : ThermalTurn c s t) : t.bus =
    markedIf (decide (t.sched.committed ≠ s.sched.committed) || (losesEntry c s && announced c s.sched)) s := by
  obtain ⟨k, hk, hsched, hbus, -⟩ := h.taken
  rw [hsched, hbus]
  exact hk.bus

theorem service (h : ThermalTurn c s t) : t.service = if LocksOut c s then
      { events := s.service.events ||| 4#16, raised := s.service.raised ||| 4#16
        counters := if losesEntry c s then counted 9 s.service.counters else s.service.counters }
    else s.service := by
  obtain ⟨k, hk, -, -, hservice⟩ := h.taken
  exact hservice.trans hk.service

end ThermalTurn

/-- `u` is `s` after the turns of the channels `cs`. -/
structure AfterTurns (cs : List CoilNo) (s u : State) : Prop where
  frame : Framed [.retained, .thermal, .coils, .sched, .bus, .service] s u
  retained : u.retained = { s.retained with heat := u.retained.heat }
  thermal : u.thermal = { s.thermal with levels := u.thermal.levels }
  untouched (c : CoilNo) : c ∉ cs → Untouched c s u
  turned (c : CoilNo) : c ∈ cs → ChannelTurned c s u
  committed : u.sched.committed = s.sched.committed - (cs.map fun c => lostDraw c s).sum
  queue : u.sched.queue = s.sched.queue.filter fun e => decide ¬(e.coil ∈ cs ∧ LocksOut e.coil s)
  announce : u.sched.announce = announceAfter (entriesLost cs s) s.sched.announce
  scanDue : s.sched.scanDue = true ∨ entriesLost cs s ≠ [] ∨ u.sched.committed ≠ s.sched.committed ∨
    (∃ c ∈ cs, Frees c s) → u.sched.scanDue = true
  bus : u.bus = markedIf (decide (u.sched.committed ≠ s.sched.committed) ||
    (entriesLost cs s).any fun c => announced c s.sched) s
  service : u.service = if ∃ c ∈ cs, LocksOut c s then
      { events := s.service.events ||| 4#16, raised := s.service.raised ||| 4#16
        counters := countedTimes 9 (entriesLost cs s).length s.service.counters }
    else s.service

theorem afterTurns_nil (s : State) : AfterTurns [] s s := by
  refine ⟨Framed.refl _ s, rfl, rfl, fun _ _ => ⟨rfl, rfl, rfl⟩, (fun _ h => nomatch h), rfl, ?_, rfl, fun h => ?_, ?_, ?_⟩
  · exact (List.filter_eq_self.2 fun e _ =>
      decide_eq_true (p := ¬(e.coil ∈ [] ∧ LocksOut e.coil s)) fun h => nomatch h.1).symm
  · rcases h with h | h | h | ⟨c, hc, -⟩
    · exact h
    · exact absurd rfl h
    · exact absurd rfl h
    · exact nomatch hc
  · exact ((congrArg (markedIf · s) (by simp [entriesLost])).trans (markedIf_false s)).symm
  · exact (if_neg fun ⟨_, hc, _⟩ => nomatch hc).symm

/-! What a channel that has not had its turn reads is as it was. -/

namespace AfterTurns

theorem settings (h : AfterTurns cs s u) : u.settings = s.settings := h.frame.2 .settings (by simp)

theorem pins (h : AfterTurns cs s u) : u.pins = s.pins := h.frame.2 .pins (by simp)

theorem rail (h : AfterTurns cs s u) : u.rail = s.rail := h.frame.2 .rail (by simp)

theorem heatNext (h : AfterTurns cs s u) (hc : c ∉ cs) : heatNext c u = heatNext c s :=
  heatNext_congr (h.untouched c hc) h.settings

theorem locksOut_iff (h : AfterTurns cs s u) (hc : c ∉ cs) : LocksOut c u ↔ LocksOut c s :=
  locksOut_congr (h.untouched c hc) h.settings (by rw [h.thermal])

theorem frees_iff (h : AfterTurns cs s u) (hc : c ∉ cs) : Frees c u ↔ Frees c s :=
  frees_congr (h.untouched c hc) h.settings

theorem entry (h : AfterTurns cs s u) (hc : c ∉ cs) : (entryOf u c).isSome = (entryOf s c).isSome := by
  rw [Bool.eq_iff_iff, entryOf_isSome, entryOf_isSome, h.queue]
  refine ⟨fun ⟨e, he, hec⟩ => ⟨e, (List.mem_filter.1 he).1, hec⟩, fun ⟨e, he, hec⟩ => ⟨e, ?_, hec⟩⟩
  exact List.mem_filter.2 ⟨he, decide_eq_true (p := ¬(e.coil ∈ cs ∧ LocksOut e.coil s)) fun hin => hc (hec ▸ hin.1)⟩

theorem losesEntry (h : AfterTurns cs s u) (hc : c ∉ cs) : losesEntry c u = losesEntry c s := by
  rw [Machine.losesEntry, Machine.losesEntry, h.entry hc, decide_eq_decide.2 (h.locksOut_iff hc)]

theorem lostDraw (h : AfterTurns cs s u) (hc : c ∉ cs) : lostDraw c u = lostDraw c s := by
  rw [Machine.lostDraw, Machine.lostDraw]
  exact if_congr (h.locksOut_iff hc) (by rw [h.settings, (h.untouched c hc).coil]) rfl

/-! One more turn. -/

theorem turnedNext (h : AfterTurns cs s u) (hc : c ∉ cs) (ht : ThermalTurn c u t) : ChannelTurned c s t := by
  have hown := h.untouched c hc
  obtain ⟨hheat, hlevel, hlocked, hfreed, hplain⟩ := ht.turned
  rw [h.heatNext hc] at hheat hlevel hplain
  rw [h.settings] at hlevel hplain
  rw [h.locksOut_iff hc, hown.coil, h.pins] at hlocked
  rw [h.frees_iff hc, hown.coil] at hfreed
  rw [h.locksOut_iff hc, h.frees_iff hc, hown.coil, hown.level, h.rail] at hplain
  exact ⟨hheat, hlevel, hlocked, hfreed, hplain⟩

theorem committedNext (h : AfterTurns cs s u) (hc : c ∉ cs) (ht : ThermalTurn c u t) :
    t.sched.committed = s.sched.committed - ((cs ++ [c]).map fun d => Machine.lostDraw d s).sum := by
  rw [ht.committed, h.lostDraw hc, h.committed, Nat.sub_sub, List.map_append, List.sum_append, List.map_singleton,
    List.sum_singleton]

theorem queueNext (h : AfterTurns cs s u) (hc : c ∉ cs) (ht : ThermalTurn c u t) :
    t.sched.queue = s.sched.queue.filter fun e => decide ¬(e.coil ∈ cs ++ [c] ∧ LocksOut e.coil s) := by
  rw [ht.queue, h.queue, List.filter_filter]
  refine List.filter_congr fun e _ => ?_
  rw [← Bool.decide_and, decide_eq_decide, List.mem_append, List.mem_singleton, h.locksOut_iff hc]
  by_cases hcoil : e.coil = c
  · simp only [hcoil, hc, true_and, false_and, false_or, not_false_eq_true, and_true]
  · simp only [hcoil, false_and, or_false, not_false_eq_true, true_and]

theorem announceNext (h : AfterTurns cs s u) (hc : c ∉ cs) (ht : ThermalTurn c u t) :
    t.sched.announce = announceAfter (entriesLost (cs ++ [c]) s) s.sched.announce := by
  rw [ht.announce, h.losesEntry hc, h.announce, entriesLost_append, announceAfter_append]

/-- D_own falls from turn to turn, so it differs from what it was as soon as one turn changes it. -/
theorem committedDiffers (h : AfterTurns cs s u) (ht : ThermalTurn c u t) :
    t.sched.committed ≠ s.sched.committed ↔
      u.sched.committed ≠ s.sched.committed ∨ t.sched.committed ≠ u.sched.committed := by
  have hu := h.committed
  have ht := ht.committed
  omega

theorem scanDueNext (h : AfterTurns cs s u) (hc : c ∉ cs) (ht : ThermalTurn c u t)
    (hprompt : s.sched.scanDue = true ∨ entriesLost (cs ++ [c]) s ≠ [] ∨ t.sched.committed ≠ s.sched.committed ∨
      (∃ d ∈ cs ++ [c], Frees d s)) : t.sched.scanDue = true := by
  have hbefore := fun hu => ht.scanDue (.inl (h.scanDue hu))
  rcases hprompt with hprompt | hprompt | hprompt | ⟨d, hd, hfrees⟩
  · exact hbefore (.inl hprompt)
  · by_cases hloses : Machine.losesEntry c s = true
    · exact ht.scanDue (.inr (.inl ((h.losesEntry hc).trans hloses)))
    · rw [entriesLost_append, if_neg hloses, List.append_nil] at hprompt
      exact hbefore (.inr (.inl hprompt))
  · rcases (h.committedDiffers ht).1 hprompt with hdiffers | hdiffers
    · exact hbefore (.inr (.inr (.inl hdiffers)))
    · exact ht.scanDue (.inr (.inr (.inl hdiffers)))
  · rcases List.mem_append.1 hd with hd | hd
    · exact hbefore (.inr (.inr (.inr ⟨d, hd, hfrees⟩)))
    · rw [List.mem_singleton.1 hd] at hfrees
      exact ht.scanDue (.inr (.inr (.inr ((h.frees_iff hc).2 hfrees))))

theorem busNext (h : AfterTurns cs s u) (hc : c ∉ cs) (ht : ThermalTurn c u t) :
    t.bus = markedIf (decide (t.sched.committed ≠ s.sched.committed) ||
      (entriesLost (cs ++ [c]) s).any fun d => announced d s.sched) s := by
  have hann := any_or_announced (c := c) h.announce
  rw [ht.bus, markedIf_markedIf _ h.bus (h.frame.2 .link (by simp)), h.losesEntry hc,
    decide_eq_decide.2 (h.committedDiffers ht), Bool.decide_or, entriesLost_append, List.any_append]
  refine congrArg (markedIf · s) ?_
  cases Machine.losesEntry c s
  · simp only [Bool.false_and, Bool.or_false, Bool.false_eq_true, if_false, List.any_nil]
    exact Bool.or_right_comm ..
  · simp only [Bool.true_and, if_true, List.any_cons, List.any_nil, Bool.or_false]
    rw [← hann]
    ac_rfl

/-- R15: the count of removed entries, where no channel locks out too. -/
theorem counters (h : AfterTurns cs s u) :
    u.service.counters = countedTimes 9 (entriesLost cs s).length s.service.counters := by
  rw [h.service]
  split
  next => rfl
  next hnone =>
    have hempty : entriesLost cs s = [] := List.filter_eq_nil_iff.2 fun c hc hloses =>
      hnone ⟨c, hc, of_decide_eq_true (Bool.and_eq_true_iff.1 hloses).1⟩
    rw [hempty]
    rfl

theorem countersNext (h : AfterTurns cs s u) :
    (if Machine.losesEntry c s then counted 9 u.service.counters else u.service.counters) =
      countedTimes 9 (entriesLost (cs ++ [c]) s).length s.service.counters := by
  rw [h.counters, counted_countedTimes, entriesLost_append, List.length_append]
  cases Machine.losesEntry c s <;> rfl

/-- Table 11-5: a bit of the events that is set already. -/
theorem setTwice (v : BitVec 16) : v ||| 4#16 ||| 4#16 = v ||| 4#16 := by rw [BitVec.or_assoc, BitVec.or_self]

theorem serviceNext (h : AfterTurns cs s u) (hc : c ∉ cs) (ht : ThermalTurn c u t) :
    t.service = if ∃ d ∈ cs ++ [c], LocksOut d s then
      { events := s.service.events ||| 4#16, raised := s.service.raised ||| 4#16
        counters := countedTimes 9 (entriesLost (cs ++ [c]) s).length s.service.counters }
    else s.service := by
  have hservice := ht.service
  rw [h.losesEntry hc, h.countersNext] at hservice
  by_cases hlocks : LocksOut c s
  · rw [hservice, if_pos ((h.locksOut_iff hc).2 hlocks),
      if_pos ⟨c, List.mem_append_right _ (List.mem_singleton_self c), hlocks⟩, h.service]
    split
    · simp only [setTwice]
    · rfl
  · have hsame : (∃ d ∈ cs ++ [c], LocksOut d s) ↔ ∃ d ∈ cs, LocksOut d s := by
      refine exists_congr fun d => and_congr_left fun hd => ?_
      rw [List.mem_append, List.mem_singleton]
      exact or_iff_left fun hdc => hlocks (hdc ▸ hd)
    have hnone : Machine.losesEntry c s = false := by rw [Machine.losesEntry, decide_eq_false hlocks, Bool.false_and]
    have hlost : entriesLost (cs ++ [c]) s = entriesLost cs s := by
      rw [entriesLost_append, hnone, if_neg Bool.false_ne_true, List.append_nil]
    rw [hservice, if_neg fun hu => hlocks ((h.locksOut_iff hc).1 hu), h.service, hlost]
    exact if_congr hsame.symm rfl rfl

theorem next (h : AfterTurns cs s u) (hc : c ∉ cs) (ht : ThermalTurn c u t) : AfterTurns (cs ++ [c]) s t where
  frame := h.frame.trans ht.frame
  retained := by rw [ht.retained, h.retained]
  thermal := by rw [ht.thermal, h.thermal]
  untouched d hd := by
    rw [List.mem_append, List.mem_singleton, not_or] at hd
    exact (h.untouched d hd.1).trans (ht.untouched hd.2)
  turned d hd := by
    rcases List.mem_append.1 hd with hd | hd
    · exact (h.turned d hd).of_untouched (ht.untouched fun hdc => hc (hdc ▸ hd))
    · rw [List.mem_singleton.1 hd]
      exact h.turnedNext hc ht
  committed := h.committedNext hc ht
  queue := h.queueNext hc ht
  announce := h.announceNext hc ht
  scanDue := h.scanDueNext hc ht
  bus := h.busNext hc ht
  service := h.serviceNext hc ht

end AfterTurns

/-- R69: the turns of channels that each come once. -/
theorem afterTurns_foldl {cs : List CoilNo} (s : State) (h : cs.Nodup) :
    AfterTurns cs s (cs.foldl (fun s c => thermalChannel c s) s) := by
  induction cs using List.reverseRecOn with
  | nil => exact afterTurns_nil s
  | append_singleton cs c ih =>
    rw [List.nodup_append] at h
    obtain ⟨hcs, -, hdisjoint⟩ := h
    rw [List.foldl_append, List.foldl_cons, List.foldl_nil]
    exact (ih hcs).next (fun hc => hdisjoint c hc c (List.mem_singleton_self c) rfl) (thermalTurn_thermalChannel c _)

end

/-! ### The interval -/

section
variable {s : State}

/-- R69: the turns of the sixteen channels. -/
def turnsTaken (s : State) : State := allCoils.foldl (fun s c => thermalChannel c s) s

theorem thermalInterval_eq (s : State) : thermalInterval s = if thermalDue s then
    (turnsTaken s).onThermal fun t => { t with interval := some (startTimer thermalPeriod), firstInterval := false }
    else s := by
  rw [thermalInterval, turnsTaken]

theorem thermalInterval_of_due (h : thermalDue s = true) : exec .thermalIntervalExpiry s =
    .next ((turnsTaken s).onThermal fun t =>
      { t with interval := some (startTimer thermalPeriod), firstInterval := false }) := by
  have hrow : exec .thermalIntervalExpiry s = .next (thermalInterval s) := rfl
  rw [hrow, thermalInterval_eq, if_pos h]

theorem afterTurns_turnsTaken (s : State) : AfterTurns allCoils s (turnsTaken s) :=
  afterTurns_foldl s (List.nodup_finRange 16)

theorem mem_allCoils (c : CoilNo) : c ∈ allCoils := List.mem_finRange c

theorem exists_mem_allCoils {p : CoilNo → Prop} : (∃ c ∈ allCoils, p c) ↔ ∃ c, p c :=
  exists_congr fun c => and_iff_right (mem_allCoils c)

theorem countedTimes_length {α : Type} (i : Fin 15) (l : List α) (v : Vector Nat 15) [Decidable (l = [])] :
    countedTimes i l.length v = if l = [] then v else v.set i (min (v[i] + l.length) 65535) :=
  if_congr List.length_eq_zero_iff rfl rfl

end

/-- Settles O42: the sixteen turns by `afterTurns_foldl`, and the new interval. -/
theorem thermalInterval_holds : Obligations.ThermalInterval := by
  intro s hruns hreached
  have hdue : thermalDue s = true := Bool.and_eq_true_iff.2 ⟨hruns, hreached⟩
  have hafter := afterTurns_turnsTaken s
  refine ⟨_, thermalInterval_of_due hdue, ?_⟩
  generalize turnsTaken s = u at *
  have hservice := hafter.service
  rw [if_congr exists_mem_allCoils rfl rfl] at hservice
  refine ⟨fun c => ?_, hafter.retained, ?_, hafter.committed, ?_, hafter.announce, fun h => hafter.scanDue ?_, ?_, ?_,
    ?_, ?_, ?_⟩
  · obtain ⟨hheat, hlevel, hlocked, hfreed, hplain⟩ := hafter.turned c (mem_allCoils c)
    refine ⟨hheat, hlevel, hlocked, hfreed, fun hlocks hfrees => ?_⟩
    rw [← hlevel] at hplain
    exact hplain hlocks hfrees
  · rfl
  · refine hafter.queue.trans (List.filter_congr fun e _ => decide_eq_decide.2 ?_)
    rw [and_iff_right (mem_allCoils e.coil)]
  · exact h.imp_right (Or.imp_right (Or.imp_right exists_mem_allCoils.2))
  · exact hafter.bus
  · exact hafter.counters.trans (countedTimes_length ..)
  · refine (congrArg Service.events hservice).trans ?_
    rw [apply_ite Service.events]
  · refine (congrArg Service.raised hservice).trans ?_
    rw [apply_ite Service.raised]
  · exact hafter.frame.trans ((onThermal_framed _ u).mono (by simp))

end Sys2Proof.Machine
end
